-- ==== Sys2Proof/Word.lean ====
section
/-! DEFINITION. The two word widths of the machine (00_scope.md R5, R6): the byte and the 16-bit word, which is
also the address. -/

namespace Sys2Proof

/-- An 8-bit value: a register, a memory byte, an instruction byte (R5). -/
abbrev Byte := BitVec 8

/-- A 16-bit value: SP, PC, a register pair, an address (R5: "address width 16 bits"). -/
abbrev Word := BitVec 16

end Sys2Proof
end

