-- ==== Sys2Proof/Machine/Bits.lean ====
section
/-! DEFINITION. Bit-field, byte-order and extension helpers (00_scope.md R6, R7): slices, concatenation with the first
part in the more significant position, `sext_16`, `zext_16`. -/

namespace Sys2Proof.Machine

/-- `v[15:8]`. -/
def hiByte (v : Word) : Byte := v.extractLsb' 8 8

/-- `v[7:0]`. -/
def loByte (v : Word) : Byte := v.extractLsb' 0 8

/-- `hi ++ lo`: the first operand is the more significant byte (R6). -/
def joinBytes (hi lo : Byte) : Word := hi ++ lo

/-- `sext_16` (R7): the byte read as a two's-complement number. -/
def sext16 (v : Byte) : Word := v.signExtend 16

/-- `zext_16` (R7). -/
def zext16 (v : Byte) : Word := v.setWidth 16

/-- The mask `1 << n` of a literal bit index (R87: "the dispatcher computes `1 << index` internally"). -/
def bitMask (n : BitVec 3) : Byte := (1#8) <<< n.toNat

end Sys2Proof.Machine
end

