-- ==== Sys2Proof/Syntax.lean ====
section
/-! DEFINITION. The syntax: the operand fields of 30_encoding.md R81 to R87, the instruction forms they make, and
`Instr`, the one inductive with one constructor for each row of spec/opcode_table.json. A constructor is spelt as the
row's mnemonic: `ld_B_C` is LD B,C; `at` stands for the parentheses of a memory operand (`ld_A_atHLinc` is
LD A,(HL+)); an immediate operand keeps the spec's letter (`d8`, `d16`, `a8`, `a16`, `e8`). -/

namespace Sys2Proof

/-- The seven 8-bit registers an instruction can name (R82; index 110 is not a register, and F has no index). -/
inductive Reg8 where
  | b | c | d | e | h | l | a
deriving DecidableEq, Repr

/-- The operand locations of R82: a register, or the memory byte at address HL. -/
inductive Loc where
  | reg (r : Reg8)
  | atHL
deriving DecidableEq, Repr

/-- The source operand `s` of the eight accumulator operations (R190). -/
inductive Src where
  | loc (l : Loc)
  | imm (d8 : Byte)
deriving DecidableEq, Repr

/-- The pairs of the SP group (R83). -/
inductive Pair where
  | bc | de | hl | sp
deriving DecidableEq, Repr

/-- The pairs of the AF group, named by PUSH and POP only (R83). -/
inductive StackPair where
  | bc | de | hl | af
deriving DecidableEq, Repr

/-- The four conditions (R85, R260). -/
inductive Cond where
  | nz | z | nc | c
deriving DecidableEq, Repr

/-- The eight accumulator operations (R84). -/
inductive AluOp where
  | add | adc | sub | sbc | and | xor | or | cp
deriving DecidableEq, Repr

/-- The eight extended rotates and shifts (R90). -/
inductive RotOp where
  | rlc | rrc | rl | rr | sla | sra | swap | srl
deriving DecidableEq, Repr

/-- The form of an instruction: which rule of files 41 to 47 gives its meaning, with the operand fields of R81 as
data. Several constructors of `Instr` share a form shape and differ only in these fields. -/
inductive Form where
  -- 41_load8.md
  | ldRegReg (dst src : Reg8)
  | ldRegImm (dst : Reg8) (d8 : Byte)
  | ldRegAtHL (dst : Reg8)
  | ldAtHLReg (src : Reg8)
  | ldAtHLImm (d8 : Byte)
  | ldAAtBC
  | ldAAtDE
  | ldAtBCA
  | ldAtDEA
  | ldAAtAbs (a16 : Word)
  | ldAtAbsA (a16 : Word)
  | ldhAAt (a8 : Byte)
  | ldhAtA (a8 : Byte)
  | ldAAtC
  | ldAtCA
  | ldAtHLIncA
  | ldAtHLDecA
  | ldAAtHLInc
  | ldAAtHLDec
  -- 42_load16_stack.md
  | ldPairImm (p : Pair) (d16 : Word)
  | ldAtAbsSP (a16 : Word)
  | ldSPHL
  | ldHLSPPlus (e8 : Byte)
  | push (q : StackPair)
  | pop (q : StackPair)
  -- 43_alu8.md
  | alu (op : AluOp) (s : Src)
  | incLoc (l : Loc)
  | decLoc (l : Loc)
  | daa
  | cpl
  | scf
  | ccf
  -- 44_alu16.md
  | addHL (p : Pair)
  | incPair (p : Pair)
  | decPair (p : Pair)
  | addSP (e8 : Byte)
  -- 45_rotate_shift_bit.md
  | rlca
  | rrca
  | rla
  | rra
  | rot (op : RotOp) (l : Loc)
  | bit (n : BitVec 3) (l : Loc)
  | res (n : BitVec 3) (l : Loc)
  | set (n : BitVec 3) (l : Loc)
  -- 46_control.md
  | jp (a16 : Word)
  | jpIf (cc : Cond) (a16 : Word)
  | jpHL
  | jr (e8 : Byte)
  | jrIf (cc : Cond) (e8 : Byte)
  | call (a16 : Word)
  | callIf (cc : Cond) (a16 : Word)
  | ret
  | retIf (cc : Cond)
  | reti
  | rst (t : BitVec 3)
  -- 47_misc_control.md
  | nop
  | halt
  | stop (ignored : Byte)
  | di
  | ei
  | prefixed (ext : Byte)
  | undefinedByte (opcode : Byte)
deriving DecidableEq, Repr

/-- The instruction set: one constructor per row of spec/opcode_table.json, the rows whose
instruction has operand bytes first, then the others; in each part the primary table (bytes 0x00 to 0xFF) comes first,
then the extended table (second bytes 0x00 to 0xFF). -/
inductive Instr where
  -- the rows with operand bytes (Lean bounds the number of a constructor that has fields), in table order
  | ld_BC_d16 (d16 : Word)
  | ld_B_d8 (d8 : Byte)
  | ld_ata16_SP (a16 : Word)
  | ld_C_d8 (d8 : Byte)
  | stop (ignored : Byte)
  | ld_DE_d16 (d16 : Word)
  | ld_D_d8 (d8 : Byte)
  | jr_e8 (e8 : Byte)
  | ld_E_d8 (d8 : Byte)
  | jr_NZ_e8 (e8 : Byte)
  | ld_HL_d16 (d16 : Word)
  | ld_H_d8 (d8 : Byte)
  | jr_Z_e8 (e8 : Byte)
  | ld_L_d8 (d8 : Byte)
  | jr_NC_e8 (e8 : Byte)
  | ld_SP_d16 (d16 : Word)
  | ld_atHL_d8 (d8 : Byte)
  | jr_C_e8 (e8 : Byte)
  | ld_A_d8 (d8 : Byte)
  | jp_NZ_a16 (a16 : Word)
  | jp_a16 (a16 : Word)
  | call_NZ_a16 (a16 : Word)
  | add_A_d8 (d8 : Byte)
  | jp_Z_a16 (a16 : Word)
  | prefix_CB (ext : Byte)
  | call_Z_a16 (a16 : Word)
  | call_a16 (a16 : Word)
  | adc_A_d8 (d8 : Byte)
  | jp_NC_a16 (a16 : Word)
  | call_NC_a16 (a16 : Word)
  | sub_A_d8 (d8 : Byte)
  | jp_C_a16 (a16 : Word)
  | call_C_a16 (a16 : Word)
  | sbc_A_d8 (d8 : Byte)
  | ldh_ata8_A (a8 : Byte)
  | and_A_d8 (d8 : Byte)
  | add_SP_e8 (e8 : Byte)
  | ld_ata16_A (a16 : Word)
  | xor_A_d8 (d8 : Byte)
  | ldh_A_ata8 (a8 : Byte)
  | or_A_d8 (d8 : Byte)
  | ld_HL_SP_e8 (e8 : Byte)
  | ld_A_ata16 (a16 : Word)
  | cp_A_d8 (d8 : Byte)
  -- primary 0x, rows without operand bytes
  | nop
  | ld_atBC_A
  | inc_BC
  | inc_B
  | dec_B
  | rlca
  | add_HL_BC
  | ld_A_atBC
  | dec_BC
  | inc_C
  | dec_C
  | rrca
  -- primary 1x, rows without operand bytes
  | ld_atDE_A
  | inc_DE
  | inc_D
  | dec_D
  | rla
  | add_HL_DE
  | ld_A_atDE
  | dec_DE
  | inc_E
  | dec_E
  | rra
  -- primary 2x, rows without operand bytes
  | ld_atHLinc_A
  | inc_HL
  | inc_H
  | dec_H
  | daa
  | add_HL_HL
  | ld_A_atHLinc
  | dec_HL
  | inc_L
  | dec_L
  | cpl
  -- primary 3x, rows without operand bytes
  | ld_atHLdec_A
  | inc_SP
  | inc_atHL
  | dec_atHL
  | scf
  | add_HL_SP
  | ld_A_atHLdec
  | dec_SP
  | inc_A
  | dec_A
  | ccf
  -- primary 4x, rows without operand bytes
  | ld_B_B
  | ld_B_C
  | ld_B_D
  | ld_B_E
  | ld_B_H
  | ld_B_L
  | ld_B_atHL
  | ld_B_A
  | ld_C_B
  | ld_C_C
  | ld_C_D
  | ld_C_E
  | ld_C_H
  | ld_C_L
  | ld_C_atHL
  | ld_C_A
  -- primary 5x, rows without operand bytes
  | ld_D_B
  | ld_D_C
  | ld_D_D
  | ld_D_E
  | ld_D_H
  | ld_D_L
  | ld_D_atHL
  | ld_D_A
  | ld_E_B
  | ld_E_C
  | ld_E_D
  | ld_E_E
  | ld_E_H
  | ld_E_L
  | ld_E_atHL
  | ld_E_A
  -- primary 6x, rows without operand bytes
  | ld_H_B
  | ld_H_C
  | ld_H_D
  | ld_H_E
  | ld_H_H
  | ld_H_L
  | ld_H_atHL
  | ld_H_A
  | ld_L_B
  | ld_L_C
  | ld_L_D
  | ld_L_E
  | ld_L_H
  | ld_L_L
  | ld_L_atHL
  | ld_L_A
  -- primary 7x, rows without operand bytes
  | ld_atHL_B
  | ld_atHL_C
  | ld_atHL_D
  | ld_atHL_E
  | ld_atHL_H
  | ld_atHL_L
  | halt
  | ld_atHL_A
  | ld_A_B
  | ld_A_C
  | ld_A_D
  | ld_A_E
  | ld_A_H
  | ld_A_L
  | ld_A_atHL
  | ld_A_A
  -- primary 8x, rows without operand bytes
  | add_A_B
  | add_A_C
  | add_A_D
  | add_A_E
  | add_A_H
  | add_A_L
  | add_A_atHL
  | add_A_A
  | adc_A_B
  | adc_A_C
  | adc_A_D
  | adc_A_E
  | adc_A_H
  | adc_A_L
  | adc_A_atHL
  | adc_A_A
  -- primary 9x, rows without operand bytes
  | sub_A_B
  | sub_A_C
  | sub_A_D
  | sub_A_E
  | sub_A_H
  | sub_A_L
  | sub_A_atHL
  | sub_A_A
  | sbc_A_B
  | sbc_A_C
  | sbc_A_D
  | sbc_A_E
  | sbc_A_H
  | sbc_A_L
  | sbc_A_atHL
  | sbc_A_A
  -- primary Ax, rows without operand bytes
  | and_A_B
  | and_A_C
  | and_A_D
  | and_A_E
  | and_A_H
  | and_A_L
  | and_A_atHL
  | and_A_A
  | xor_A_B
  | xor_A_C
  | xor_A_D
  | xor_A_E
  | xor_A_H
  | xor_A_L
  | xor_A_atHL
  | xor_A_A
  -- primary Bx, rows without operand bytes
  | or_A_B
  | or_A_C
  | or_A_D
  | or_A_E
  | or_A_H
  | or_A_L
  | or_A_atHL
  | or_A_A
  | cp_A_B
  | cp_A_C
  | cp_A_D
  | cp_A_E
  | cp_A_H
  | cp_A_L
  | cp_A_atHL
  | cp_A_A
  -- primary Cx, rows without operand bytes
  | ret_NZ
  | pop_BC
  | push_BC
  | rst_00h
  | ret_Z
  | ret
  | rst_08h
  -- primary Dx, rows without operand bytes
  | ret_NC
  | pop_DE
  | undefined_D3
  | push_DE
  | rst_10h
  | ret_C
  | reti
  | undefined_DB
  | undefined_DD
  | rst_18h
  -- primary Ex, rows without operand bytes
  | pop_HL
  | ld_atC_A
  | undefined_E3
  | undefined_E4
  | push_HL
  | rst_20h
  | jp_HL
  | undefined_EB
  | undefined_EC
  | undefined_ED
  | rst_28h
  -- primary Fx, rows without operand bytes
  | pop_AF
  | ld_A_atC
  | di
  | undefined_F4
  | push_AF
  | rst_30h
  | ld_SP_HL
  | ei
  | undefined_FC
  | undefined_FD
  | rst_38h
  -- 0xCB 0x, rows without operand bytes
  | rlc_B
  | rlc_C
  | rlc_D
  | rlc_E
  | rlc_H
  | rlc_L
  | rlc_atHL
  | rlc_A
  | rrc_B
  | rrc_C
  | rrc_D
  | rrc_E
  | rrc_H
  | rrc_L
  | rrc_atHL
  | rrc_A
  -- 0xCB 1x, rows without operand bytes
  | rl_B
  | rl_C
  | rl_D
  | rl_E
  | rl_H
  | rl_L
  | rl_atHL
  | rl_A
  | rr_B
  | rr_C
  | rr_D
  | rr_E
  | rr_H
  | rr_L
  | rr_atHL
  | rr_A
  -- 0xCB 2x, rows without operand bytes
  | sla_B
  | sla_C
  | sla_D
  | sla_E
  | sla_H
  | sla_L
  | sla_atHL
  | sla_A
  | sra_B
  | sra_C
  | sra_D
  | sra_E
  | sra_H
  | sra_L
  | sra_atHL
  | sra_A
  -- 0xCB 3x, rows without operand bytes
  | swap_B
  | swap_C
  | swap_D
  | swap_E
  | swap_H
  | swap_L
  | swap_atHL
  | swap_A
  | srl_B
  | srl_C
  | srl_D
  | srl_E
  | srl_H
  | srl_L
  | srl_atHL
  | srl_A
  -- 0xCB 4x, rows without operand bytes
  | bit_0_B
  | bit_0_C
  | bit_0_D
  | bit_0_E
  | bit_0_H
  | bit_0_L
  | bit_0_atHL
  | bit_0_A
  | bit_1_B
  | bit_1_C
  | bit_1_D
  | bit_1_E
  | bit_1_H
  | bit_1_L
  | bit_1_atHL
  | bit_1_A
  -- 0xCB 5x, rows without operand bytes
  | bit_2_B
  | bit_2_C
  | bit_2_D
  | bit_2_E
  | bit_2_H
  | bit_2_L
  | bit_2_atHL
  | bit_2_A
  | bit_3_B
  | bit_3_C
  | bit_3_D
  | bit_3_E
  | bit_3_H
  | bit_3_L
  | bit_3_atHL
  | bit_3_A
  -- 0xCB 6x, rows without operand bytes
  | bit_4_B
  | bit_4_C
  | bit_4_D
  | bit_4_E
  | bit_4_H
  | bit_4_L
  | bit_4_atHL
  | bit_4_A
  | bit_5_B
  | bit_5_C
  | bit_5_D
  | bit_5_E
  | bit_5_H
  | bit_5_L
  | bit_5_atHL
  | bit_5_A
  -- 0xCB 7x, rows without operand bytes
  | bit_6_B
  | bit_6_C
  | bit_6_D
  | bit_6_E
  | bit_6_H
  | bit_6_L
  | bit_6_atHL
  | bit_6_A
  | bit_7_B
  | bit_7_C
  | bit_7_D
  | bit_7_E
  | bit_7_H
  | bit_7_L
  | bit_7_atHL
  | bit_7_A
  -- 0xCB 8x, rows without operand bytes
  | res_0_B
  | res_0_C
  | res_0_D
  | res_0_E
  | res_0_H
  | res_0_L
  | res_0_atHL
  | res_0_A
  | res_1_B
  | res_1_C
  | res_1_D
  | res_1_E
  | res_1_H
  | res_1_L
  | res_1_atHL
  | res_1_A
  -- 0xCB 9x, rows without operand bytes
  | res_2_B
  | res_2_C
  | res_2_D
  | res_2_E
  | res_2_H
  | res_2_L
  | res_2_atHL
  | res_2_A
  | res_3_B
  | res_3_C
  | res_3_D
  | res_3_E
  | res_3_H
  | res_3_L
  | res_3_atHL
  | res_3_A
  -- 0xCB Ax, rows without operand bytes
  | res_4_B
  | res_4_C
  | res_4_D
  | res_4_E
  | res_4_H
  | res_4_L
  | res_4_atHL
  | res_4_A
  | res_5_B
  | res_5_C
  | res_5_D
  | res_5_E
  | res_5_H
  | res_5_L
  | res_5_atHL
  | res_5_A
  -- 0xCB Bx, rows without operand bytes
  | res_6_B
  | res_6_C
  | res_6_D
  | res_6_E
  | res_6_H
  | res_6_L
  | res_6_atHL
  | res_6_A
  | res_7_B
  | res_7_C
  | res_7_D
  | res_7_E
  | res_7_H
  | res_7_L
  | res_7_atHL
  | res_7_A
  -- 0xCB Cx, rows without operand bytes
  | set_0_B
  | set_0_C
  | set_0_D
  | set_0_E
  | set_0_H
  | set_0_L
  | set_0_atHL
  | set_0_A
  | set_1_B
  | set_1_C
  | set_1_D
  | set_1_E
  | set_1_H
  | set_1_L
  | set_1_atHL
  | set_1_A
  -- 0xCB Dx, rows without operand bytes
  | set_2_B
  | set_2_C
  | set_2_D
  | set_2_E
  | set_2_H
  | set_2_L
  | set_2_atHL
  | set_2_A
  | set_3_B
  | set_3_C
  | set_3_D
  | set_3_E
  | set_3_H
  | set_3_L
  | set_3_atHL
  | set_3_A
  -- 0xCB Ex, rows without operand bytes
  | set_4_B
  | set_4_C
  | set_4_D
  | set_4_E
  | set_4_H
  | set_4_L
  | set_4_atHL
  | set_4_A
  | set_5_B
  | set_5_C
  | set_5_D
  | set_5_E
  | set_5_H
  | set_5_L
  | set_5_atHL
  | set_5_A
  -- 0xCB Fx, rows without operand bytes
  | set_6_B
  | set_6_C
  | set_6_D
  | set_6_E
  | set_6_H
  | set_6_L
  | set_6_atHL
  | set_6_A
  | set_7_B
  | set_7_C
  | set_7_D
  | set_7_E
  | set_7_H
  | set_7_L
  | set_7_atHL
  | set_7_A
deriving DecidableEq, Repr

end Sys2Proof
end

