-- ==== Sys2Proof/Machine/Form.lean ====
section
/-! DEFINITION. The codes of the operand fields (30_encoding.md R82 to R85, R90) and the form of every instruction. -/

namespace Sys2Proof

/-- The 3-bit index of a register (R82). -/
def Reg8.code : Reg8 → BitVec 3
  | .b => 0b000#3
  | .c => 0b001#3
  | .d => 0b010#3
  | .e => 0b011#3
  | .h => 0b100#3
  | .l => 0b101#3
  | .a => 0b111#3

/-- The 3-bit index of an operand location (R82): `110` is the memory byte at HL. -/
def Loc.code : Loc → BitVec 3
  | .reg r => r.code
  | .atHL => 0b110#3

/-- The operand location of a 3-bit index (R82). -/
def locOfCode (i : BitVec 3) : Loc :=
  match i.toNat with
  | 0 => .reg .b
  | 1 => .reg .c
  | 2 => .reg .d
  | 3 => .reg .e
  | 4 => .reg .h
  | 5 => .reg .l
  | 6 => .atHL
  | _ => .reg .a

/-- The 2-bit index of a pair, SP group (R83). -/
def Pair.code : Pair → BitVec 2
  | .bc => 0b00#2
  | .de => 0b01#2
  | .hl => 0b10#2
  | .sp => 0b11#2

/-- The 2-bit index of a pair, AF group (R83). -/
def StackPair.code : StackPair → BitVec 2
  | .bc => 0b00#2
  | .de => 0b01#2
  | .hl => 0b10#2
  | .af => 0b11#2

/-- The 2-bit condition code (R85). -/
def Cond.code : Cond → BitVec 2
  | .nz => 0b00#2
  | .z => 0b01#2
  | .nc => 0b10#2
  | .c => 0b11#2

/-- The 3-bit ALU operation code (R84). -/
def AluOp.code : AluOp → BitVec 3
  | .add => 0b000#3
  | .adc => 0b001#3
  | .sub => 0b010#3
  | .sbc => 0b011#3
  | .and => 0b100#3
  | .xor => 0b101#3
  | .or => 0b110#3
  | .cp => 0b111#3

/-- The 3-bit rotate/shift operation code (R90). -/
def RotOp.code : RotOp → BitVec 3
  | .rlc => 0b000#3
  | .rrc => 0b001#3
  | .rl => 0b010#3
  | .rr => 0b011#3
  | .sla => 0b100#3
  | .sra => 0b101#3
  | .swap => 0b110#3
  | .srl => 0b111#3

/-- The rotate or shift of a 3-bit operation code (R90). -/
def rotOfCode (o : BitVec 3) : RotOp :=
  match o.toNat with
  | 0 => .rlc
  | 1 => .rrc
  | 2 => .rl
  | 3 => .rr
  | 4 => .sla
  | 5 => .sra
  | 6 => .swap
  | _ => .srl

/-- The form and operand fields of each instruction (the `fields` of R81 for its row). -/
def Instr.form : Instr → Form
  | .nop => .nop
  | .ld_BC_d16 d16 => .ldPairImm .bc d16
  | .ld_atBC_A => .ldAtBCA
  | .inc_BC => .incPair .bc
  | .inc_B => .incLoc (.reg .b)
  | .dec_B => .decLoc (.reg .b)
  | .ld_B_d8 d8 => .ldRegImm .b d8
  | .rlca => .rlca
  | .ld_ata16_SP a16 => .ldAtAbsSP a16
  | .add_HL_BC => .addHL .bc
  | .ld_A_atBC => .ldAAtBC
  | .dec_BC => .decPair .bc
  | .inc_C => .incLoc (.reg .c)
  | .dec_C => .decLoc (.reg .c)
  | .ld_C_d8 d8 => .ldRegImm .c d8
  | .rrca => .rrca
  | .stop ignored => .stop ignored
  | .ld_DE_d16 d16 => .ldPairImm .de d16
  | .ld_atDE_A => .ldAtDEA
  | .inc_DE => .incPair .de
  | .inc_D => .incLoc (.reg .d)
  | .dec_D => .decLoc (.reg .d)
  | .ld_D_d8 d8 => .ldRegImm .d d8
  | .rla => .rla
  | .jr_e8 e8 => .jr e8
  | .add_HL_DE => .addHL .de
  | .ld_A_atDE => .ldAAtDE
  | .dec_DE => .decPair .de
  | .inc_E => .incLoc (.reg .e)
  | .dec_E => .decLoc (.reg .e)
  | .ld_E_d8 d8 => .ldRegImm .e d8
  | .rra => .rra
  | .jr_NZ_e8 e8 => .jrIf .nz e8
  | .ld_HL_d16 d16 => .ldPairImm .hl d16
  | .ld_atHLinc_A => .ldAtHLIncA
  | .inc_HL => .incPair .hl
  | .inc_H => .incLoc (.reg .h)
  | .dec_H => .decLoc (.reg .h)
  | .ld_H_d8 d8 => .ldRegImm .h d8
  | .daa => .daa
  | .jr_Z_e8 e8 => .jrIf .z e8
  | .add_HL_HL => .addHL .hl
  | .ld_A_atHLinc => .ldAAtHLInc
  | .dec_HL => .decPair .hl
  | .inc_L => .incLoc (.reg .l)
  | .dec_L => .decLoc (.reg .l)
  | .ld_L_d8 d8 => .ldRegImm .l d8
  | .cpl => .cpl
  | .jr_NC_e8 e8 => .jrIf .nc e8
  | .ld_SP_d16 d16 => .ldPairImm .sp d16
  | .ld_atHLdec_A => .ldAtHLDecA
  | .inc_SP => .incPair .sp
  | .inc_atHL => .incLoc .atHL
  | .dec_atHL => .decLoc .atHL
  | .ld_atHL_d8 d8 => .ldAtHLImm d8
  | .scf => .scf
  | .jr_C_e8 e8 => .jrIf .c e8
  | .add_HL_SP => .addHL .sp
  | .ld_A_atHLdec => .ldAAtHLDec
  | .dec_SP => .decPair .sp
  | .inc_A => .incLoc (.reg .a)
  | .dec_A => .decLoc (.reg .a)
  | .ld_A_d8 d8 => .ldRegImm .a d8
  | .ccf => .ccf
  | .ld_B_B => .ldRegReg .b .b
  | .ld_B_C => .ldRegReg .b .c
  | .ld_B_D => .ldRegReg .b .d
  | .ld_B_E => .ldRegReg .b .e
  | .ld_B_H => .ldRegReg .b .h
  | .ld_B_L => .ldRegReg .b .l
  | .ld_B_atHL => .ldRegAtHL .b
  | .ld_B_A => .ldRegReg .b .a
  | .ld_C_B => .ldRegReg .c .b
  | .ld_C_C => .ldRegReg .c .c
  | .ld_C_D => .ldRegReg .c .d
  | .ld_C_E => .ldRegReg .c .e
  | .ld_C_H => .ldRegReg .c .h
  | .ld_C_L => .ldRegReg .c .l
  | .ld_C_atHL => .ldRegAtHL .c
  | .ld_C_A => .ldRegReg .c .a
  | .ld_D_B => .ldRegReg .d .b
  | .ld_D_C => .ldRegReg .d .c
  | .ld_D_D => .ldRegReg .d .d
  | .ld_D_E => .ldRegReg .d .e
  | .ld_D_H => .ldRegReg .d .h
  | .ld_D_L => .ldRegReg .d .l
  | .ld_D_atHL => .ldRegAtHL .d
  | .ld_D_A => .ldRegReg .d .a
  | .ld_E_B => .ldRegReg .e .b
  | .ld_E_C => .ldRegReg .e .c
  | .ld_E_D => .ldRegReg .e .d
  | .ld_E_E => .ldRegReg .e .e
  | .ld_E_H => .ldRegReg .e .h
  | .ld_E_L => .ldRegReg .e .l
  | .ld_E_atHL => .ldRegAtHL .e
  | .ld_E_A => .ldRegReg .e .a
  | .ld_H_B => .ldRegReg .h .b
  | .ld_H_C => .ldRegReg .h .c
  | .ld_H_D => .ldRegReg .h .d
  | .ld_H_E => .ldRegReg .h .e
  | .ld_H_H => .ldRegReg .h .h
  | .ld_H_L => .ldRegReg .h .l
  | .ld_H_atHL => .ldRegAtHL .h
  | .ld_H_A => .ldRegReg .h .a
  | .ld_L_B => .ldRegReg .l .b
  | .ld_L_C => .ldRegReg .l .c
  | .ld_L_D => .ldRegReg .l .d
  | .ld_L_E => .ldRegReg .l .e
  | .ld_L_H => .ldRegReg .l .h
  | .ld_L_L => .ldRegReg .l .l
  | .ld_L_atHL => .ldRegAtHL .l
  | .ld_L_A => .ldRegReg .l .a
  | .ld_atHL_B => .ldAtHLReg .b
  | .ld_atHL_C => .ldAtHLReg .c
  | .ld_atHL_D => .ldAtHLReg .d
  | .ld_atHL_E => .ldAtHLReg .e
  | .ld_atHL_H => .ldAtHLReg .h
  | .ld_atHL_L => .ldAtHLReg .l
  | .halt => .halt
  | .ld_atHL_A => .ldAtHLReg .a
  | .ld_A_B => .ldRegReg .a .b
  | .ld_A_C => .ldRegReg .a .c
  | .ld_A_D => .ldRegReg .a .d
  | .ld_A_E => .ldRegReg .a .e
  | .ld_A_H => .ldRegReg .a .h
  | .ld_A_L => .ldRegReg .a .l
  | .ld_A_atHL => .ldRegAtHL .a
  | .ld_A_A => .ldRegReg .a .a
  | .add_A_B => .alu .add (.loc (.reg .b))
  | .add_A_C => .alu .add (.loc (.reg .c))
  | .add_A_D => .alu .add (.loc (.reg .d))
  | .add_A_E => .alu .add (.loc (.reg .e))
  | .add_A_H => .alu .add (.loc (.reg .h))
  | .add_A_L => .alu .add (.loc (.reg .l))
  | .add_A_atHL => .alu .add (.loc .atHL)
  | .add_A_A => .alu .add (.loc (.reg .a))
  | .adc_A_B => .alu .adc (.loc (.reg .b))
  | .adc_A_C => .alu .adc (.loc (.reg .c))
  | .adc_A_D => .alu .adc (.loc (.reg .d))
  | .adc_A_E => .alu .adc (.loc (.reg .e))
  | .adc_A_H => .alu .adc (.loc (.reg .h))
  | .adc_A_L => .alu .adc (.loc (.reg .l))
  | .adc_A_atHL => .alu .adc (.loc .atHL)
  | .adc_A_A => .alu .adc (.loc (.reg .a))
  | .sub_A_B => .alu .sub (.loc (.reg .b))
  | .sub_A_C => .alu .sub (.loc (.reg .c))
  | .sub_A_D => .alu .sub (.loc (.reg .d))
  | .sub_A_E => .alu .sub (.loc (.reg .e))
  | .sub_A_H => .alu .sub (.loc (.reg .h))
  | .sub_A_L => .alu .sub (.loc (.reg .l))
  | .sub_A_atHL => .alu .sub (.loc .atHL)
  | .sub_A_A => .alu .sub (.loc (.reg .a))
  | .sbc_A_B => .alu .sbc (.loc (.reg .b))
  | .sbc_A_C => .alu .sbc (.loc (.reg .c))
  | .sbc_A_D => .alu .sbc (.loc (.reg .d))
  | .sbc_A_E => .alu .sbc (.loc (.reg .e))
  | .sbc_A_H => .alu .sbc (.loc (.reg .h))
  | .sbc_A_L => .alu .sbc (.loc (.reg .l))
  | .sbc_A_atHL => .alu .sbc (.loc .atHL)
  | .sbc_A_A => .alu .sbc (.loc (.reg .a))
  | .and_A_B => .alu .and (.loc (.reg .b))
  | .and_A_C => .alu .and (.loc (.reg .c))
  | .and_A_D => .alu .and (.loc (.reg .d))
  | .and_A_E => .alu .and (.loc (.reg .e))
  | .and_A_H => .alu .and (.loc (.reg .h))
  | .and_A_L => .alu .and (.loc (.reg .l))
  | .and_A_atHL => .alu .and (.loc .atHL)
  | .and_A_A => .alu .and (.loc (.reg .a))
  | .xor_A_B => .alu .xor (.loc (.reg .b))
  | .xor_A_C => .alu .xor (.loc (.reg .c))
  | .xor_A_D => .alu .xor (.loc (.reg .d))
  | .xor_A_E => .alu .xor (.loc (.reg .e))
  | .xor_A_H => .alu .xor (.loc (.reg .h))
  | .xor_A_L => .alu .xor (.loc (.reg .l))
  | .xor_A_atHL => .alu .xor (.loc .atHL)
  | .xor_A_A => .alu .xor (.loc (.reg .a))
  | .or_A_B => .alu .or (.loc (.reg .b))
  | .or_A_C => .alu .or (.loc (.reg .c))
  | .or_A_D => .alu .or (.loc (.reg .d))
  | .or_A_E => .alu .or (.loc (.reg .e))
  | .or_A_H => .alu .or (.loc (.reg .h))
  | .or_A_L => .alu .or (.loc (.reg .l))
  | .or_A_atHL => .alu .or (.loc .atHL)
  | .or_A_A => .alu .or (.loc (.reg .a))
  | .cp_A_B => .alu .cp (.loc (.reg .b))
  | .cp_A_C => .alu .cp (.loc (.reg .c))
  | .cp_A_D => .alu .cp (.loc (.reg .d))
  | .cp_A_E => .alu .cp (.loc (.reg .e))
  | .cp_A_H => .alu .cp (.loc (.reg .h))
  | .cp_A_L => .alu .cp (.loc (.reg .l))
  | .cp_A_atHL => .alu .cp (.loc .atHL)
  | .cp_A_A => .alu .cp (.loc (.reg .a))
  | .ret_NZ => .retIf .nz
  | .pop_BC => .pop .bc
  | .jp_NZ_a16 a16 => .jpIf .nz a16
  | .jp_a16 a16 => .jp a16
  | .call_NZ_a16 a16 => .callIf .nz a16
  | .push_BC => .push .bc
  | .add_A_d8 d8 => .alu .add (.imm d8)
  | .rst_00h => .rst 0#3
  | .ret_Z => .retIf .z
  | .ret => .ret
  | .jp_Z_a16 a16 => .jpIf .z a16
  | .prefix_CB ext => .prefixed ext
  | .call_Z_a16 a16 => .callIf .z a16
  | .call_a16 a16 => .call a16
  | .adc_A_d8 d8 => .alu .adc (.imm d8)
  | .rst_08h => .rst 1#3
  | .ret_NC => .retIf .nc
  | .pop_DE => .pop .de
  | .jp_NC_a16 a16 => .jpIf .nc a16
  | .undefined_D3 => .undefinedByte 0xD3#8
  | .call_NC_a16 a16 => .callIf .nc a16
  | .push_DE => .push .de
  | .sub_A_d8 d8 => .alu .sub (.imm d8)
  | .rst_10h => .rst 2#3
  | .ret_C => .retIf .c
  | .reti => .reti
  | .jp_C_a16 a16 => .jpIf .c a16
  | .undefined_DB => .undefinedByte 0xDB#8
  | .call_C_a16 a16 => .callIf .c a16
  | .undefined_DD => .undefinedByte 0xDD#8
  | .sbc_A_d8 d8 => .alu .sbc (.imm d8)
  | .rst_18h => .rst 3#3
  | .ldh_ata8_A a8 => .ldhAtA a8
  | .pop_HL => .pop .hl
  | .ld_atC_A => .ldAtCA
  | .undefined_E3 => .undefinedByte 0xE3#8
  | .undefined_E4 => .undefinedByte 0xE4#8
  | .push_HL => .push .hl
  | .and_A_d8 d8 => .alu .and (.imm d8)
  | .rst_20h => .rst 4#3
  | .add_SP_e8 e8 => .addSP e8
  | .jp_HL => .jpHL
  | .ld_ata16_A a16 => .ldAtAbsA a16
  | .undefined_EB => .undefinedByte 0xEB#8
  | .undefined_EC => .undefinedByte 0xEC#8
  | .undefined_ED => .undefinedByte 0xED#8
  | .xor_A_d8 d8 => .alu .xor (.imm d8)
  | .rst_28h => .rst 5#3
  | .ldh_A_ata8 a8 => .ldhAAt a8
  | .pop_AF => .pop .af
  | .ld_A_atC => .ldAAtC
  | .di => .di
  | .undefined_F4 => .undefinedByte 0xF4#8
  | .push_AF => .push .af
  | .or_A_d8 d8 => .alu .or (.imm d8)
  | .rst_30h => .rst 6#3
  | .ld_HL_SP_e8 e8 => .ldHLSPPlus e8
  | .ld_SP_HL => .ldSPHL
  | .ld_A_ata16 a16 => .ldAAtAbs a16
  | .ei => .ei
  | .undefined_FC => .undefinedByte 0xFC#8
  | .undefined_FD => .undefinedByte 0xFD#8
  | .cp_A_d8 d8 => .alu .cp (.imm d8)
  | .rst_38h => .rst 7#3
  | .rlc_B => .rot .rlc (.reg .b)
  | .rlc_C => .rot .rlc (.reg .c)
  | .rlc_D => .rot .rlc (.reg .d)
  | .rlc_E => .rot .rlc (.reg .e)
  | .rlc_H => .rot .rlc (.reg .h)
  | .rlc_L => .rot .rlc (.reg .l)
  | .rlc_atHL => .rot .rlc .atHL
  | .rlc_A => .rot .rlc (.reg .a)
  | .rrc_B => .rot .rrc (.reg .b)
  | .rrc_C => .rot .rrc (.reg .c)
  | .rrc_D => .rot .rrc (.reg .d)
  | .rrc_E => .rot .rrc (.reg .e)
  | .rrc_H => .rot .rrc (.reg .h)
  | .rrc_L => .rot .rrc (.reg .l)
  | .rrc_atHL => .rot .rrc .atHL
  | .rrc_A => .rot .rrc (.reg .a)
  | .rl_B => .rot .rl (.reg .b)
  | .rl_C => .rot .rl (.reg .c)
  | .rl_D => .rot .rl (.reg .d)
  | .rl_E => .rot .rl (.reg .e)
  | .rl_H => .rot .rl (.reg .h)
  | .rl_L => .rot .rl (.reg .l)
  | .rl_atHL => .rot .rl .atHL
  | .rl_A => .rot .rl (.reg .a)
  | .rr_B => .rot .rr (.reg .b)
  | .rr_C => .rot .rr (.reg .c)
  | .rr_D => .rot .rr (.reg .d)
  | .rr_E => .rot .rr (.reg .e)
  | .rr_H => .rot .rr (.reg .h)
  | .rr_L => .rot .rr (.reg .l)
  | .rr_atHL => .rot .rr .atHL
  | .rr_A => .rot .rr (.reg .a)
  | .sla_B => .rot .sla (.reg .b)
  | .sla_C => .rot .sla (.reg .c)
  | .sla_D => .rot .sla (.reg .d)
  | .sla_E => .rot .sla (.reg .e)
  | .sla_H => .rot .sla (.reg .h)
  | .sla_L => .rot .sla (.reg .l)
  | .sla_atHL => .rot .sla .atHL
  | .sla_A => .rot .sla (.reg .a)
  | .sra_B => .rot .sra (.reg .b)
  | .sra_C => .rot .sra (.reg .c)
  | .sra_D => .rot .sra (.reg .d)
  | .sra_E => .rot .sra (.reg .e)
  | .sra_H => .rot .sra (.reg .h)
  | .sra_L => .rot .sra (.reg .l)
  | .sra_atHL => .rot .sra .atHL
  | .sra_A => .rot .sra (.reg .a)
  | .swap_B => .rot .swap (.reg .b)
  | .swap_C => .rot .swap (.reg .c)
  | .swap_D => .rot .swap (.reg .d)
  | .swap_E => .rot .swap (.reg .e)
  | .swap_H => .rot .swap (.reg .h)
  | .swap_L => .rot .swap (.reg .l)
  | .swap_atHL => .rot .swap .atHL
  | .swap_A => .rot .swap (.reg .a)
  | .srl_B => .rot .srl (.reg .b)
  | .srl_C => .rot .srl (.reg .c)
  | .srl_D => .rot .srl (.reg .d)
  | .srl_E => .rot .srl (.reg .e)
  | .srl_H => .rot .srl (.reg .h)
  | .srl_L => .rot .srl (.reg .l)
  | .srl_atHL => .rot .srl .atHL
  | .srl_A => .rot .srl (.reg .a)
  | .bit_0_B => .bit 0#3 (.reg .b)
  | .bit_0_C => .bit 0#3 (.reg .c)
  | .bit_0_D => .bit 0#3 (.reg .d)
  | .bit_0_E => .bit 0#3 (.reg .e)
  | .bit_0_H => .bit 0#3 (.reg .h)
  | .bit_0_L => .bit 0#3 (.reg .l)
  | .bit_0_atHL => .bit 0#3 .atHL
  | .bit_0_A => .bit 0#3 (.reg .a)
  | .bit_1_B => .bit 1#3 (.reg .b)
  | .bit_1_C => .bit 1#3 (.reg .c)
  | .bit_1_D => .bit 1#3 (.reg .d)
  | .bit_1_E => .bit 1#3 (.reg .e)
  | .bit_1_H => .bit 1#3 (.reg .h)
  | .bit_1_L => .bit 1#3 (.reg .l)
  | .bit_1_atHL => .bit 1#3 .atHL
  | .bit_1_A => .bit 1#3 (.reg .a)
  | .bit_2_B => .bit 2#3 (.reg .b)
  | .bit_2_C => .bit 2#3 (.reg .c)
  | .bit_2_D => .bit 2#3 (.reg .d)
  | .bit_2_E => .bit 2#3 (.reg .e)
  | .bit_2_H => .bit 2#3 (.reg .h)
  | .bit_2_L => .bit 2#3 (.reg .l)
  | .bit_2_atHL => .bit 2#3 .atHL
  | .bit_2_A => .bit 2#3 (.reg .a)
  | .bit_3_B => .bit 3#3 (.reg .b)
  | .bit_3_C => .bit 3#3 (.reg .c)
  | .bit_3_D => .bit 3#3 (.reg .d)
  | .bit_3_E => .bit 3#3 (.reg .e)
  | .bit_3_H => .bit 3#3 (.reg .h)
  | .bit_3_L => .bit 3#3 (.reg .l)
  | .bit_3_atHL => .bit 3#3 .atHL
  | .bit_3_A => .bit 3#3 (.reg .a)
  | .bit_4_B => .bit 4#3 (.reg .b)
  | .bit_4_C => .bit 4#3 (.reg .c)
  | .bit_4_D => .bit 4#3 (.reg .d)
  | .bit_4_E => .bit 4#3 (.reg .e)
  | .bit_4_H => .bit 4#3 (.reg .h)
  | .bit_4_L => .bit 4#3 (.reg .l)
  | .bit_4_atHL => .bit 4#3 .atHL
  | .bit_4_A => .bit 4#3 (.reg .a)
  | .bit_5_B => .bit 5#3 (.reg .b)
  | .bit_5_C => .bit 5#3 (.reg .c)
  | .bit_5_D => .bit 5#3 (.reg .d)
  | .bit_5_E => .bit 5#3 (.reg .e)
  | .bit_5_H => .bit 5#3 (.reg .h)
  | .bit_5_L => .bit 5#3 (.reg .l)
  | .bit_5_atHL => .bit 5#3 .atHL
  | .bit_5_A => .bit 5#3 (.reg .a)
  | .bit_6_B => .bit 6#3 (.reg .b)
  | .bit_6_C => .bit 6#3 (.reg .c)
  | .bit_6_D => .bit 6#3 (.reg .d)
  | .bit_6_E => .bit 6#3 (.reg .e)
  | .bit_6_H => .bit 6#3 (.reg .h)
  | .bit_6_L => .bit 6#3 (.reg .l)
  | .bit_6_atHL => .bit 6#3 .atHL
  | .bit_6_A => .bit 6#3 (.reg .a)
  | .bit_7_B => .bit 7#3 (.reg .b)
  | .bit_7_C => .bit 7#3 (.reg .c)
  | .bit_7_D => .bit 7#3 (.reg .d)
  | .bit_7_E => .bit 7#3 (.reg .e)
  | .bit_7_H => .bit 7#3 (.reg .h)
  | .bit_7_L => .bit 7#3 (.reg .l)
  | .bit_7_atHL => .bit 7#3 .atHL
  | .bit_7_A => .bit 7#3 (.reg .a)
  | .res_0_B => .res 0#3 (.reg .b)
  | .res_0_C => .res 0#3 (.reg .c)
  | .res_0_D => .res 0#3 (.reg .d)
  | .res_0_E => .res 0#3 (.reg .e)
  | .res_0_H => .res 0#3 (.reg .h)
  | .res_0_L => .res 0#3 (.reg .l)
  | .res_0_atHL => .res 0#3 .atHL
  | .res_0_A => .res 0#3 (.reg .a)
  | .res_1_B => .res 1#3 (.reg .b)
  | .res_1_C => .res 1#3 (.reg .c)
  | .res_1_D => .res 1#3 (.reg .d)
  | .res_1_E => .res 1#3 (.reg .e)
  | .res_1_H => .res 1#3 (.reg .h)
  | .res_1_L => .res 1#3 (.reg .l)
  | .res_1_atHL => .res 1#3 .atHL
  | .res_1_A => .res 1#3 (.reg .a)
  | .res_2_B => .res 2#3 (.reg .b)
  | .res_2_C => .res 2#3 (.reg .c)
  | .res_2_D => .res 2#3 (.reg .d)
  | .res_2_E => .res 2#3 (.reg .e)
  | .res_2_H => .res 2#3 (.reg .h)
  | .res_2_L => .res 2#3 (.reg .l)
  | .res_2_atHL => .res 2#3 .atHL
  | .res_2_A => .res 2#3 (.reg .a)
  | .res_3_B => .res 3#3 (.reg .b)
  | .res_3_C => .res 3#3 (.reg .c)
  | .res_3_D => .res 3#3 (.reg .d)
  | .res_3_E => .res 3#3 (.reg .e)
  | .res_3_H => .res 3#3 (.reg .h)
  | .res_3_L => .res 3#3 (.reg .l)
  | .res_3_atHL => .res 3#3 .atHL
  | .res_3_A => .res 3#3 (.reg .a)
  | .res_4_B => .res 4#3 (.reg .b)
  | .res_4_C => .res 4#3 (.reg .c)
  | .res_4_D => .res 4#3 (.reg .d)
  | .res_4_E => .res 4#3 (.reg .e)
  | .res_4_H => .res 4#3 (.reg .h)
  | .res_4_L => .res 4#3 (.reg .l)
  | .res_4_atHL => .res 4#3 .atHL
  | .res_4_A => .res 4#3 (.reg .a)
  | .res_5_B => .res 5#3 (.reg .b)
  | .res_5_C => .res 5#3 (.reg .c)
  | .res_5_D => .res 5#3 (.reg .d)
  | .res_5_E => .res 5#3 (.reg .e)
  | .res_5_H => .res 5#3 (.reg .h)
  | .res_5_L => .res 5#3 (.reg .l)
  | .res_5_atHL => .res 5#3 .atHL
  | .res_5_A => .res 5#3 (.reg .a)
  | .res_6_B => .res 6#3 (.reg .b)
  | .res_6_C => .res 6#3 (.reg .c)
  | .res_6_D => .res 6#3 (.reg .d)
  | .res_6_E => .res 6#3 (.reg .e)
  | .res_6_H => .res 6#3 (.reg .h)
  | .res_6_L => .res 6#3 (.reg .l)
  | .res_6_atHL => .res 6#3 .atHL
  | .res_6_A => .res 6#3 (.reg .a)
  | .res_7_B => .res 7#3 (.reg .b)
  | .res_7_C => .res 7#3 (.reg .c)
  | .res_7_D => .res 7#3 (.reg .d)
  | .res_7_E => .res 7#3 (.reg .e)
  | .res_7_H => .res 7#3 (.reg .h)
  | .res_7_L => .res 7#3 (.reg .l)
  | .res_7_atHL => .res 7#3 .atHL
  | .res_7_A => .res 7#3 (.reg .a)
  | .set_0_B => .set 0#3 (.reg .b)
  | .set_0_C => .set 0#3 (.reg .c)
  | .set_0_D => .set 0#3 (.reg .d)
  | .set_0_E => .set 0#3 (.reg .e)
  | .set_0_H => .set 0#3 (.reg .h)
  | .set_0_L => .set 0#3 (.reg .l)
  | .set_0_atHL => .set 0#3 .atHL
  | .set_0_A => .set 0#3 (.reg .a)
  | .set_1_B => .set 1#3 (.reg .b)
  | .set_1_C => .set 1#3 (.reg .c)
  | .set_1_D => .set 1#3 (.reg .d)
  | .set_1_E => .set 1#3 (.reg .e)
  | .set_1_H => .set 1#3 (.reg .h)
  | .set_1_L => .set 1#3 (.reg .l)
  | .set_1_atHL => .set 1#3 .atHL
  | .set_1_A => .set 1#3 (.reg .a)
  | .set_2_B => .set 2#3 (.reg .b)
  | .set_2_C => .set 2#3 (.reg .c)
  | .set_2_D => .set 2#3 (.reg .d)
  | .set_2_E => .set 2#3 (.reg .e)
  | .set_2_H => .set 2#3 (.reg .h)
  | .set_2_L => .set 2#3 (.reg .l)
  | .set_2_atHL => .set 2#3 .atHL
  | .set_2_A => .set 2#3 (.reg .a)
  | .set_3_B => .set 3#3 (.reg .b)
  | .set_3_C => .set 3#3 (.reg .c)
  | .set_3_D => .set 3#3 (.reg .d)
  | .set_3_E => .set 3#3 (.reg .e)
  | .set_3_H => .set 3#3 (.reg .h)
  | .set_3_L => .set 3#3 (.reg .l)
  | .set_3_atHL => .set 3#3 .atHL
  | .set_3_A => .set 3#3 (.reg .a)
  | .set_4_B => .set 4#3 (.reg .b)
  | .set_4_C => .set 4#3 (.reg .c)
  | .set_4_D => .set 4#3 (.reg .d)
  | .set_4_E => .set 4#3 (.reg .e)
  | .set_4_H => .set 4#3 (.reg .h)
  | .set_4_L => .set 4#3 (.reg .l)
  | .set_4_atHL => .set 4#3 .atHL
  | .set_4_A => .set 4#3 (.reg .a)
  | .set_5_B => .set 5#3 (.reg .b)
  | .set_5_C => .set 5#3 (.reg .c)
  | .set_5_D => .set 5#3 (.reg .d)
  | .set_5_E => .set 5#3 (.reg .e)
  | .set_5_H => .set 5#3 (.reg .h)
  | .set_5_L => .set 5#3 (.reg .l)
  | .set_5_atHL => .set 5#3 .atHL
  | .set_5_A => .set 5#3 (.reg .a)
  | .set_6_B => .set 6#3 (.reg .b)
  | .set_6_C => .set 6#3 (.reg .c)
  | .set_6_D => .set 6#3 (.reg .d)
  | .set_6_E => .set 6#3 (.reg .e)
  | .set_6_H => .set 6#3 (.reg .h)
  | .set_6_L => .set 6#3 (.reg .l)
  | .set_6_atHL => .set 6#3 .atHL
  | .set_6_A => .set 6#3 (.reg .a)
  | .set_7_B => .set 7#3 (.reg .b)
  | .set_7_C => .set 7#3 (.reg .c)
  | .set_7_D => .set 7#3 (.reg .d)
  | .set_7_E => .set 7#3 (.reg .e)
  | .set_7_H => .set 7#3 (.reg .h)
  | .set_7_L => .set 7#3 (.reg .l)
  | .set_7_atHL => .set 7#3 .atHL
  | .set_7_A => .set 7#3 (.reg .a)

end Sys2Proof
end

