-- ==== Sys2Proof/WellFormed.lean ====
section
/-! DEFINITION. Well-formedness of an instruction. Operand fields are typed at their exact widths, so the one term that
is no instruction of its own is the bare prefix: "Not an instruction by itself" (47_misc_control.md R285). -/

namespace Sys2Proof

/-- Whether the form is an instruction by itself. -/
def Form.wellFormed : Form → Bool
  | .prefixed _ => false
  | .ldRegReg _ _ | .ldRegImm _ _ | .ldRegAtHL _ | .ldAtHLReg _ | .ldAtHLImm _ => true
  | .ldAAtBC | .ldAAtDE | .ldAtBCA | .ldAtDEA | .ldAAtAbs _ | .ldAtAbsA _ | .ldhAAt _ | .ldhAtA _ => true
  | .ldAAtC | .ldAtCA | .ldAtHLIncA | .ldAtHLDecA | .ldAAtHLInc | .ldAAtHLDec => true
  | .ldPairImm _ _ | .ldAtAbsSP _ | .ldSPHL | .ldHLSPPlus _ | .push _ | .pop _ => true
  | .alu _ _ | .incLoc _ | .decLoc _ | .daa | .cpl | .scf | .ccf => true
  | .addHL _ | .incPair _ | .decPair _ | .addSP _ => true
  | .rlca | .rrca | .rla | .rra | .rot _ _ | .bit _ _ | .res _ _ | .set _ _ => true
  | .jp _ | .jpIf _ _ | .jpHL | .jr _ | .jrIf _ _ | .call _ | .callIf _ _ | .ret | .retIf _ | .reti | .rst _ => true
  | .nop | .halt | .stop _ | .di | .ei | .undefinedByte _ => true

/-- Whether the instruction is the reading of its own bytes: every constructor but `prefix_CB`, whose bytes are those
of an extended instruction (R285, R90). -/
def Instr.wellFormed (i : Instr) : Bool := i.form.wellFormed

/-- Whether the form is one of the undefined bytes (R89), the only forms that are not defined operations. -/
def Form.isUndefined : Form → Bool
  | .undefinedByte _ => true
  | _ => false

/-- Whether the instruction is one of the 11 undefined bytes (R89). -/
def Instr.isUndefined (i : Instr) : Bool := i.form.isUndefined

end Sys2Proof
end

