-- ==== Sys2Proof/Decode.lean ====
section
/-! DEFINITION. Decoding, total on any bytes: the primary table by the grid of R88, the extended table by R90; then the
encoder, written from the format patterns of R81 and the field codes of R82 to R87. The two are written from different
tables of the spec, so their agreement says something. Each of the 11 undefined bytes decodes to the constructor of its
own row, whose meaning is the fault (log 10). -/

namespace Sys2Proof

open Sys2Proof.Machine (loByte hiByte joinBytes)

/-- R90, bytes below 0x40: the operation and the operand location. -/
def extendedRotate (op : RotOp) (l : Loc) : Instr :=
  match op, l with
  | .rlc, .reg .b => .rlc_B
  | .rlc, .reg .c => .rlc_C
  | .rlc, .reg .d => .rlc_D
  | .rlc, .reg .e => .rlc_E
  | .rlc, .reg .h => .rlc_H
  | .rlc, .reg .l => .rlc_L
  | .rlc, .atHL => .rlc_atHL
  | .rlc, .reg .a => .rlc_A
  | .rrc, .reg .b => .rrc_B
  | .rrc, .reg .c => .rrc_C
  | .rrc, .reg .d => .rrc_D
  | .rrc, .reg .e => .rrc_E
  | .rrc, .reg .h => .rrc_H
  | .rrc, .reg .l => .rrc_L
  | .rrc, .atHL => .rrc_atHL
  | .rrc, .reg .a => .rrc_A
  | .rl, .reg .b => .rl_B
  | .rl, .reg .c => .rl_C
  | .rl, .reg .d => .rl_D
  | .rl, .reg .e => .rl_E
  | .rl, .reg .h => .rl_H
  | .rl, .reg .l => .rl_L
  | .rl, .atHL => .rl_atHL
  | .rl, .reg .a => .rl_A
  | .rr, .reg .b => .rr_B
  | .rr, .reg .c => .rr_C
  | .rr, .reg .d => .rr_D
  | .rr, .reg .e => .rr_E
  | .rr, .reg .h => .rr_H
  | .rr, .reg .l => .rr_L
  | .rr, .atHL => .rr_atHL
  | .rr, .reg .a => .rr_A
  | .sla, .reg .b => .sla_B
  | .sla, .reg .c => .sla_C
  | .sla, .reg .d => .sla_D
  | .sla, .reg .e => .sla_E
  | .sla, .reg .h => .sla_H
  | .sla, .reg .l => .sla_L
  | .sla, .atHL => .sla_atHL
  | .sla, .reg .a => .sla_A
  | .sra, .reg .b => .sra_B
  | .sra, .reg .c => .sra_C
  | .sra, .reg .d => .sra_D
  | .sra, .reg .e => .sra_E
  | .sra, .reg .h => .sra_H
  | .sra, .reg .l => .sra_L
  | .sra, .atHL => .sra_atHL
  | .sra, .reg .a => .sra_A
  | .swap, .reg .b => .swap_B
  | .swap, .reg .c => .swap_C
  | .swap, .reg .d => .swap_D
  | .swap, .reg .e => .swap_E
  | .swap, .reg .h => .swap_H
  | .swap, .reg .l => .swap_L
  | .swap, .atHL => .swap_atHL
  | .swap, .reg .a => .swap_A
  | .srl, .reg .b => .srl_B
  | .srl, .reg .c => .srl_C
  | .srl, .reg .d => .srl_D
  | .srl, .reg .e => .srl_E
  | .srl, .reg .h => .srl_H
  | .srl, .reg .l => .srl_L
  | .srl, .atHL => .srl_atHL
  | .srl, .reg .a => .srl_A

/-- R90, `b[7:6]` = 01: BIT with the bit index `n` and the operand location. -/
def extendedBit (n : Nat) (l : Loc) : Instr :=
  match n, l with
  | 0, .reg .b => .bit_0_B
  | 0, .reg .c => .bit_0_C
  | 0, .reg .d => .bit_0_D
  | 0, .reg .e => .bit_0_E
  | 0, .reg .h => .bit_0_H
  | 0, .reg .l => .bit_0_L
  | 0, .atHL => .bit_0_atHL
  | 0, .reg .a => .bit_0_A
  | 1, .reg .b => .bit_1_B
  | 1, .reg .c => .bit_1_C
  | 1, .reg .d => .bit_1_D
  | 1, .reg .e => .bit_1_E
  | 1, .reg .h => .bit_1_H
  | 1, .reg .l => .bit_1_L
  | 1, .atHL => .bit_1_atHL
  | 1, .reg .a => .bit_1_A
  | 2, .reg .b => .bit_2_B
  | 2, .reg .c => .bit_2_C
  | 2, .reg .d => .bit_2_D
  | 2, .reg .e => .bit_2_E
  | 2, .reg .h => .bit_2_H
  | 2, .reg .l => .bit_2_L
  | 2, .atHL => .bit_2_atHL
  | 2, .reg .a => .bit_2_A
  | 3, .reg .b => .bit_3_B
  | 3, .reg .c => .bit_3_C
  | 3, .reg .d => .bit_3_D
  | 3, .reg .e => .bit_3_E
  | 3, .reg .h => .bit_3_H
  | 3, .reg .l => .bit_3_L
  | 3, .atHL => .bit_3_atHL
  | 3, .reg .a => .bit_3_A
  | 4, .reg .b => .bit_4_B
  | 4, .reg .c => .bit_4_C
  | 4, .reg .d => .bit_4_D
  | 4, .reg .e => .bit_4_E
  | 4, .reg .h => .bit_4_H
  | 4, .reg .l => .bit_4_L
  | 4, .atHL => .bit_4_atHL
  | 4, .reg .a => .bit_4_A
  | 5, .reg .b => .bit_5_B
  | 5, .reg .c => .bit_5_C
  | 5, .reg .d => .bit_5_D
  | 5, .reg .e => .bit_5_E
  | 5, .reg .h => .bit_5_H
  | 5, .reg .l => .bit_5_L
  | 5, .atHL => .bit_5_atHL
  | 5, .reg .a => .bit_5_A
  | 6, .reg .b => .bit_6_B
  | 6, .reg .c => .bit_6_C
  | 6, .reg .d => .bit_6_D
  | 6, .reg .e => .bit_6_E
  | 6, .reg .h => .bit_6_H
  | 6, .reg .l => .bit_6_L
  | 6, .atHL => .bit_6_atHL
  | 6, .reg .a => .bit_6_A
  | _, .reg .b => .bit_7_B
  | _, .reg .c => .bit_7_C
  | _, .reg .d => .bit_7_D
  | _, .reg .e => .bit_7_E
  | _, .reg .h => .bit_7_H
  | _, .reg .l => .bit_7_L
  | _, .atHL => .bit_7_atHL
  | _, .reg .a => .bit_7_A

/-- R90, `b[7:6]` = 10: RES with the bit index `n` and the operand location. -/
def extendedRes (n : Nat) (l : Loc) : Instr :=
  match n, l with
  | 0, .reg .b => .res_0_B
  | 0, .reg .c => .res_0_C
  | 0, .reg .d => .res_0_D
  | 0, .reg .e => .res_0_E
  | 0, .reg .h => .res_0_H
  | 0, .reg .l => .res_0_L
  | 0, .atHL => .res_0_atHL
  | 0, .reg .a => .res_0_A
  | 1, .reg .b => .res_1_B
  | 1, .reg .c => .res_1_C
  | 1, .reg .d => .res_1_D
  | 1, .reg .e => .res_1_E
  | 1, .reg .h => .res_1_H
  | 1, .reg .l => .res_1_L
  | 1, .atHL => .res_1_atHL
  | 1, .reg .a => .res_1_A
  | 2, .reg .b => .res_2_B
  | 2, .reg .c => .res_2_C
  | 2, .reg .d => .res_2_D
  | 2, .reg .e => .res_2_E
  | 2, .reg .h => .res_2_H
  | 2, .reg .l => .res_2_L
  | 2, .atHL => .res_2_atHL
  | 2, .reg .a => .res_2_A
  | 3, .reg .b => .res_3_B
  | 3, .reg .c => .res_3_C
  | 3, .reg .d => .res_3_D
  | 3, .reg .e => .res_3_E
  | 3, .reg .h => .res_3_H
  | 3, .reg .l => .res_3_L
  | 3, .atHL => .res_3_atHL
  | 3, .reg .a => .res_3_A
  | 4, .reg .b => .res_4_B
  | 4, .reg .c => .res_4_C
  | 4, .reg .d => .res_4_D
  | 4, .reg .e => .res_4_E
  | 4, .reg .h => .res_4_H
  | 4, .reg .l => .res_4_L
  | 4, .atHL => .res_4_atHL
  | 4, .reg .a => .res_4_A
  | 5, .reg .b => .res_5_B
  | 5, .reg .c => .res_5_C
  | 5, .reg .d => .res_5_D
  | 5, .reg .e => .res_5_E
  | 5, .reg .h => .res_5_H
  | 5, .reg .l => .res_5_L
  | 5, .atHL => .res_5_atHL
  | 5, .reg .a => .res_5_A
  | 6, .reg .b => .res_6_B
  | 6, .reg .c => .res_6_C
  | 6, .reg .d => .res_6_D
  | 6, .reg .e => .res_6_E
  | 6, .reg .h => .res_6_H
  | 6, .reg .l => .res_6_L
  | 6, .atHL => .res_6_atHL
  | 6, .reg .a => .res_6_A
  | _, .reg .b => .res_7_B
  | _, .reg .c => .res_7_C
  | _, .reg .d => .res_7_D
  | _, .reg .e => .res_7_E
  | _, .reg .h => .res_7_H
  | _, .reg .l => .res_7_L
  | _, .atHL => .res_7_atHL
  | _, .reg .a => .res_7_A

/-- R90, `b[7:6]` = 11: SET with the bit index `n` and the operand location. -/
def extendedSet (n : Nat) (l : Loc) : Instr :=
  match n, l with
  | 0, .reg .b => .set_0_B
  | 0, .reg .c => .set_0_C
  | 0, .reg .d => .set_0_D
  | 0, .reg .e => .set_0_E
  | 0, .reg .h => .set_0_H
  | 0, .reg .l => .set_0_L
  | 0, .atHL => .set_0_atHL
  | 0, .reg .a => .set_0_A
  | 1, .reg .b => .set_1_B
  | 1, .reg .c => .set_1_C
  | 1, .reg .d => .set_1_D
  | 1, .reg .e => .set_1_E
  | 1, .reg .h => .set_1_H
  | 1, .reg .l => .set_1_L
  | 1, .atHL => .set_1_atHL
  | 1, .reg .a => .set_1_A
  | 2, .reg .b => .set_2_B
  | 2, .reg .c => .set_2_C
  | 2, .reg .d => .set_2_D
  | 2, .reg .e => .set_2_E
  | 2, .reg .h => .set_2_H
  | 2, .reg .l => .set_2_L
  | 2, .atHL => .set_2_atHL
  | 2, .reg .a => .set_2_A
  | 3, .reg .b => .set_3_B
  | 3, .reg .c => .set_3_C
  | 3, .reg .d => .set_3_D
  | 3, .reg .e => .set_3_E
  | 3, .reg .h => .set_3_H
  | 3, .reg .l => .set_3_L
  | 3, .atHL => .set_3_atHL
  | 3, .reg .a => .set_3_A
  | 4, .reg .b => .set_4_B
  | 4, .reg .c => .set_4_C
  | 4, .reg .d => .set_4_D
  | 4, .reg .e => .set_4_E
  | 4, .reg .h => .set_4_H
  | 4, .reg .l => .set_4_L
  | 4, .atHL => .set_4_atHL
  | 4, .reg .a => .set_4_A
  | 5, .reg .b => .set_5_B
  | 5, .reg .c => .set_5_C
  | 5, .reg .d => .set_5_D
  | 5, .reg .e => .set_5_E
  | 5, .reg .h => .set_5_H
  | 5, .reg .l => .set_5_L
  | 5, .atHL => .set_5_atHL
  | 5, .reg .a => .set_5_A
  | 6, .reg .b => .set_6_B
  | 6, .reg .c => .set_6_C
  | 6, .reg .d => .set_6_D
  | 6, .reg .e => .set_6_E
  | 6, .reg .h => .set_6_H
  | 6, .reg .l => .set_6_L
  | 6, .atHL => .set_6_atHL
  | 6, .reg .a => .set_6_A
  | _, .reg .b => .set_7_B
  | _, .reg .c => .set_7_C
  | _, .reg .d => .set_7_D
  | _, .reg .e => .set_7_E
  | _, .reg .h => .set_7_H
  | _, .reg .l => .set_7_L
  | _, .atHL => .set_7_atHL
  | _, .reg .a => .set_7_A

/-- The extended operation of the byte after 0xCB (R90): `rrr = b[2:0]`, `ooo` or `bbb` = `b[5:3]`, group
`b[7:6]`. -/
def decodeExtended (ext : Byte) : Instr :=
  let l := locOfCode (ext.extractLsb' 0 3)
  let y := ext.extractLsb' 3 3
  match (ext.extractLsb' 6 2).toNat with
  | 0 => extendedRotate (rotOfCode y) l
  | 1 => extendedBit y.toNat l
  | 2 => extendedRes y.toNat l
  | _ => extendedSet y.toNat l

/-- Row 0x of the grid of R88. -/
def primaryRow0 (lo : Nat) (imm8 : Byte) (imm16 : Word) : Instr :=
  match lo with
  | 0x0 => .nop
  | 0x1 => .ld_BC_d16 imm16
  | 0x2 => .ld_atBC_A
  | 0x3 => .inc_BC
  | 0x4 => .inc_B
  | 0x5 => .dec_B
  | 0x6 => .ld_B_d8 imm8
  | 0x7 => .rlca
  | 0x8 => .ld_ata16_SP imm16
  | 0x9 => .add_HL_BC
  | 0xA => .ld_A_atBC
  | 0xB => .dec_BC
  | 0xC => .inc_C
  | 0xD => .dec_C
  | 0xE => .ld_C_d8 imm8
  | _ => .rrca

/-- Row 1x of the grid of R88. -/
def primaryRow1 (lo : Nat) (imm8 : Byte) (imm16 : Word) : Instr :=
  match lo with
  | 0x0 => .stop imm8
  | 0x1 => .ld_DE_d16 imm16
  | 0x2 => .ld_atDE_A
  | 0x3 => .inc_DE
  | 0x4 => .inc_D
  | 0x5 => .dec_D
  | 0x6 => .ld_D_d8 imm8
  | 0x7 => .rla
  | 0x8 => .jr_e8 imm8
  | 0x9 => .add_HL_DE
  | 0xA => .ld_A_atDE
  | 0xB => .dec_DE
  | 0xC => .inc_E
  | 0xD => .dec_E
  | 0xE => .ld_E_d8 imm8
  | _ => .rra

/-- Row 2x of the grid of R88. -/
def primaryRow2 (lo : Nat) (imm8 : Byte) (imm16 : Word) : Instr :=
  match lo with
  | 0x0 => .jr_NZ_e8 imm8
  | 0x1 => .ld_HL_d16 imm16
  | 0x2 => .ld_atHLinc_A
  | 0x3 => .inc_HL
  | 0x4 => .inc_H
  | 0x5 => .dec_H
  | 0x6 => .ld_H_d8 imm8
  | 0x7 => .daa
  | 0x8 => .jr_Z_e8 imm8
  | 0x9 => .add_HL_HL
  | 0xA => .ld_A_atHLinc
  | 0xB => .dec_HL
  | 0xC => .inc_L
  | 0xD => .dec_L
  | 0xE => .ld_L_d8 imm8
  | _ => .cpl

/-- Row 3x of the grid of R88. -/
def primaryRow3 (lo : Nat) (imm8 : Byte) (imm16 : Word) : Instr :=
  match lo with
  | 0x0 => .jr_NC_e8 imm8
  | 0x1 => .ld_SP_d16 imm16
  | 0x2 => .ld_atHLdec_A
  | 0x3 => .inc_SP
  | 0x4 => .inc_atHL
  | 0x5 => .dec_atHL
  | 0x6 => .ld_atHL_d8 imm8
  | 0x7 => .scf
  | 0x8 => .jr_C_e8 imm8
  | 0x9 => .add_HL_SP
  | 0xA => .ld_A_atHLdec
  | 0xB => .dec_SP
  | 0xC => .inc_A
  | 0xD => .dec_A
  | 0xE => .ld_A_d8 imm8
  | _ => .ccf

/-- Row 4x of the grid of R88. -/
def primaryRow4 (lo : Nat) (_imm8 : Byte) (_imm16 : Word) : Instr :=
  match lo with
  | 0x0 => .ld_B_B
  | 0x1 => .ld_B_C
  | 0x2 => .ld_B_D
  | 0x3 => .ld_B_E
  | 0x4 => .ld_B_H
  | 0x5 => .ld_B_L
  | 0x6 => .ld_B_atHL
  | 0x7 => .ld_B_A
  | 0x8 => .ld_C_B
  | 0x9 => .ld_C_C
  | 0xA => .ld_C_D
  | 0xB => .ld_C_E
  | 0xC => .ld_C_H
  | 0xD => .ld_C_L
  | 0xE => .ld_C_atHL
  | _ => .ld_C_A

/-- Row 5x of the grid of R88. -/
def primaryRow5 (lo : Nat) (_imm8 : Byte) (_imm16 : Word) : Instr :=
  match lo with
  | 0x0 => .ld_D_B
  | 0x1 => .ld_D_C
  | 0x2 => .ld_D_D
  | 0x3 => .ld_D_E
  | 0x4 => .ld_D_H
  | 0x5 => .ld_D_L
  | 0x6 => .ld_D_atHL
  | 0x7 => .ld_D_A
  | 0x8 => .ld_E_B
  | 0x9 => .ld_E_C
  | 0xA => .ld_E_D
  | 0xB => .ld_E_E
  | 0xC => .ld_E_H
  | 0xD => .ld_E_L
  | 0xE => .ld_E_atHL
  | _ => .ld_E_A

/-- Row 6x of the grid of R88. -/
def primaryRow6 (lo : Nat) (_imm8 : Byte) (_imm16 : Word) : Instr :=
  match lo with
  | 0x0 => .ld_H_B
  | 0x1 => .ld_H_C
  | 0x2 => .ld_H_D
  | 0x3 => .ld_H_E
  | 0x4 => .ld_H_H
  | 0x5 => .ld_H_L
  | 0x6 => .ld_H_atHL
  | 0x7 => .ld_H_A
  | 0x8 => .ld_L_B
  | 0x9 => .ld_L_C
  | 0xA => .ld_L_D
  | 0xB => .ld_L_E
  | 0xC => .ld_L_H
  | 0xD => .ld_L_L
  | 0xE => .ld_L_atHL
  | _ => .ld_L_A

/-- Row 7x of the grid of R88. -/
def primaryRow7 (lo : Nat) (_imm8 : Byte) (_imm16 : Word) : Instr :=
  match lo with
  | 0x0 => .ld_atHL_B
  | 0x1 => .ld_atHL_C
  | 0x2 => .ld_atHL_D
  | 0x3 => .ld_atHL_E
  | 0x4 => .ld_atHL_H
  | 0x5 => .ld_atHL_L
  | 0x6 => .halt
  | 0x7 => .ld_atHL_A
  | 0x8 => .ld_A_B
  | 0x9 => .ld_A_C
  | 0xA => .ld_A_D
  | 0xB => .ld_A_E
  | 0xC => .ld_A_H
  | 0xD => .ld_A_L
  | 0xE => .ld_A_atHL
  | _ => .ld_A_A

/-- Row 8x of the grid of R88. -/
def primaryRow8 (lo : Nat) (_imm8 : Byte) (_imm16 : Word) : Instr :=
  match lo with
  | 0x0 => .add_A_B
  | 0x1 => .add_A_C
  | 0x2 => .add_A_D
  | 0x3 => .add_A_E
  | 0x4 => .add_A_H
  | 0x5 => .add_A_L
  | 0x6 => .add_A_atHL
  | 0x7 => .add_A_A
  | 0x8 => .adc_A_B
  | 0x9 => .adc_A_C
  | 0xA => .adc_A_D
  | 0xB => .adc_A_E
  | 0xC => .adc_A_H
  | 0xD => .adc_A_L
  | 0xE => .adc_A_atHL
  | _ => .adc_A_A

/-- Row 9x of the grid of R88. -/
def primaryRow9 (lo : Nat) (_imm8 : Byte) (_imm16 : Word) : Instr :=
  match lo with
  | 0x0 => .sub_A_B
  | 0x1 => .sub_A_C
  | 0x2 => .sub_A_D
  | 0x3 => .sub_A_E
  | 0x4 => .sub_A_H
  | 0x5 => .sub_A_L
  | 0x6 => .sub_A_atHL
  | 0x7 => .sub_A_A
  | 0x8 => .sbc_A_B
  | 0x9 => .sbc_A_C
  | 0xA => .sbc_A_D
  | 0xB => .sbc_A_E
  | 0xC => .sbc_A_H
  | 0xD => .sbc_A_L
  | 0xE => .sbc_A_atHL
  | _ => .sbc_A_A

/-- Row Ax of the grid of R88. -/
def primaryRowA (lo : Nat) (_imm8 : Byte) (_imm16 : Word) : Instr :=
  match lo with
  | 0x0 => .and_A_B
  | 0x1 => .and_A_C
  | 0x2 => .and_A_D
  | 0x3 => .and_A_E
  | 0x4 => .and_A_H
  | 0x5 => .and_A_L
  | 0x6 => .and_A_atHL
  | 0x7 => .and_A_A
  | 0x8 => .xor_A_B
  | 0x9 => .xor_A_C
  | 0xA => .xor_A_D
  | 0xB => .xor_A_E
  | 0xC => .xor_A_H
  | 0xD => .xor_A_L
  | 0xE => .xor_A_atHL
  | _ => .xor_A_A

/-- Row Bx of the grid of R88. -/
def primaryRowB (lo : Nat) (_imm8 : Byte) (_imm16 : Word) : Instr :=
  match lo with
  | 0x0 => .or_A_B
  | 0x1 => .or_A_C
  | 0x2 => .or_A_D
  | 0x3 => .or_A_E
  | 0x4 => .or_A_H
  | 0x5 => .or_A_L
  | 0x6 => .or_A_atHL
  | 0x7 => .or_A_A
  | 0x8 => .cp_A_B
  | 0x9 => .cp_A_C
  | 0xA => .cp_A_D
  | 0xB => .cp_A_E
  | 0xC => .cp_A_H
  | 0xD => .cp_A_L
  | 0xE => .cp_A_atHL
  | _ => .cp_A_A

/-- Row Cx of the grid of R88. -/
def primaryRowC (lo : Nat) (imm8 : Byte) (imm16 : Word) : Instr :=
  match lo with
  | 0x0 => .ret_NZ
  | 0x1 => .pop_BC
  | 0x2 => .jp_NZ_a16 imm16
  | 0x3 => .jp_a16 imm16
  | 0x4 => .call_NZ_a16 imm16
  | 0x5 => .push_BC
  | 0x6 => .add_A_d8 imm8
  | 0x7 => .rst_00h
  | 0x8 => .ret_Z
  | 0x9 => .ret
  | 0xA => .jp_Z_a16 imm16
  | 0xB => decodeExtended imm8
  | 0xC => .call_Z_a16 imm16
  | 0xD => .call_a16 imm16
  | 0xE => .adc_A_d8 imm8
  | _ => .rst_08h

/-- Row Dx of the grid of R88. -/
def primaryRowD (lo : Nat) (imm8 : Byte) (imm16 : Word) : Instr :=
  match lo with
  | 0x0 => .ret_NC
  | 0x1 => .pop_DE
  | 0x2 => .jp_NC_a16 imm16
  | 0x3 => .undefined_D3
  | 0x4 => .call_NC_a16 imm16
  | 0x5 => .push_DE
  | 0x6 => .sub_A_d8 imm8
  | 0x7 => .rst_10h
  | 0x8 => .ret_C
  | 0x9 => .reti
  | 0xA => .jp_C_a16 imm16
  | 0xB => .undefined_DB
  | 0xC => .call_C_a16 imm16
  | 0xD => .undefined_DD
  | 0xE => .sbc_A_d8 imm8
  | _ => .rst_18h

/-- Row Ex of the grid of R88. -/
def primaryRowE (lo : Nat) (imm8 : Byte) (imm16 : Word) : Instr :=
  match lo with
  | 0x0 => .ldh_ata8_A imm8
  | 0x1 => .pop_HL
  | 0x2 => .ld_atC_A
  | 0x3 => .undefined_E3
  | 0x4 => .undefined_E4
  | 0x5 => .push_HL
  | 0x6 => .and_A_d8 imm8
  | 0x7 => .rst_20h
  | 0x8 => .add_SP_e8 imm8
  | 0x9 => .jp_HL
  | 0xA => .ld_ata16_A imm16
  | 0xB => .undefined_EB
  | 0xC => .undefined_EC
  | 0xD => .undefined_ED
  | 0xE => .xor_A_d8 imm8
  | _ => .rst_28h

/-- Row Fx of the grid of R88. -/
def primaryRowF (lo : Nat) (imm8 : Byte) (imm16 : Word) : Instr :=
  match lo with
  | 0x0 => .ldh_A_ata8 imm8
  | 0x1 => .pop_AF
  | 0x2 => .ld_A_atC
  | 0x3 => .di
  | 0x4 => .undefined_F4
  | 0x5 => .push_AF
  | 0x6 => .or_A_d8 imm8
  | 0x7 => .rst_30h
  | 0x8 => .ld_HL_SP_e8 imm8
  | 0x9 => .ld_SP_HL
  | 0xA => .ld_A_ata16 imm16
  | 0xB => .ei
  | 0xC => .undefined_FC
  | 0xD => .undefined_FD
  | 0xE => .cp_A_d8 imm8
  | _ => .rst_38h

/-- The primary table by the two nibbles of byte 0 (R88); `imm8` and `imm16` are the immediates of R86. -/
def decodePrimary (hi lo : Nat) (imm8 : Byte) (imm16 : Word) : Instr :=
  match hi with
  | 0x0 => primaryRow0 lo imm8 imm16
  | 0x1 => primaryRow1 lo imm8 imm16
  | 0x2 => primaryRow2 lo imm8 imm16
  | 0x3 => primaryRow3 lo imm8 imm16
  | 0x4 => primaryRow4 lo imm8 imm16
  | 0x5 => primaryRow5 lo imm8 imm16
  | 0x6 => primaryRow6 lo imm8 imm16
  | 0x7 => primaryRow7 lo imm8 imm16
  | 0x8 => primaryRow8 lo imm8 imm16
  | 0x9 => primaryRow9 lo imm8 imm16
  | 0xA => primaryRowA lo imm8 imm16
  | 0xB => primaryRowB lo imm8 imm16
  | 0xC => primaryRowC lo imm8 imm16
  | 0xD => primaryRowD lo imm8 imm16
  | 0xE => primaryRowE lo imm8 imm16
  | _ => primaryRowF lo imm8 imm16

/-- The instruction that byte 0 and the two bytes after it make; bytes past its length are ignored (R86, R91). -/
def decodeBytes (b0 b1 b2 : Byte) : Instr :=
  decodePrimary (b0.toNat / 16) (b0.toNat % 16) b1 (joinBytes b2 b1)

/-- The length column of the grid of R88, one row per high nibble (2 at 0xCB: R80, every extended instruction). -/
def lengthRow : Nat → List Nat
  | 0x0 => [1, 3, 1, 1, 1, 1, 2, 1, 3, 1, 1, 1, 1, 1, 2, 1]
  | 0x1 => [2, 3, 1, 1, 1, 1, 2, 1, 2, 1, 1, 1, 1, 1, 2, 1]
  | 0x2 => [2, 3, 1, 1, 1, 1, 2, 1, 2, 1, 1, 1, 1, 1, 2, 1]
  | 0x3 => [2, 3, 1, 1, 1, 1, 2, 1, 2, 1, 1, 1, 1, 1, 2, 1]
  | 0x4 => [1, 1, 1, 1, 1, 1, 1, 1, 1, 1, 1, 1, 1, 1, 1, 1]
  | 0x5 => [1, 1, 1, 1, 1, 1, 1, 1, 1, 1, 1, 1, 1, 1, 1, 1]
  | 0x6 => [1, 1, 1, 1, 1, 1, 1, 1, 1, 1, 1, 1, 1, 1, 1, 1]
  | 0x7 => [1, 1, 1, 1, 1, 1, 1, 1, 1, 1, 1, 1, 1, 1, 1, 1]
  | 0x8 => [1, 1, 1, 1, 1, 1, 1, 1, 1, 1, 1, 1, 1, 1, 1, 1]
  | 0x9 => [1, 1, 1, 1, 1, 1, 1, 1, 1, 1, 1, 1, 1, 1, 1, 1]
  | 0xA => [1, 1, 1, 1, 1, 1, 1, 1, 1, 1, 1, 1, 1, 1, 1, 1]
  | 0xB => [1, 1, 1, 1, 1, 1, 1, 1, 1, 1, 1, 1, 1, 1, 1, 1]
  | 0xC => [1, 1, 3, 3, 3, 1, 2, 1, 1, 1, 3, 2, 3, 3, 2, 1]
  | 0xD => [1, 1, 3, 1, 3, 1, 2, 1, 1, 1, 3, 1, 3, 1, 2, 1]
  | 0xE => [2, 1, 1, 1, 1, 1, 2, 1, 2, 1, 3, 1, 1, 1, 2, 1]
  | _ => [2, 1, 1, 1, 1, 1, 2, 1, 2, 1, 3, 1, 1, 1, 2, 1]

/-- "The length is a function of byte 0 alone" (R80). -/
def instrLength (b0 : Byte) : Nat := (lengthRow (b0.toNat / 16)).getD (b0.toNat % 16) 1

/-- Why a list of bytes does not decode. Every byte value is either a defined instruction or an undefined byte with a
row of its own (R89, R95), so the one reason is a list that ends too soon. -/
inductive DecodeError where
  /-- There is no byte 0. -/
  | noBytes
  /-- Fewer bytes than the length of byte 0 (R80). -/
  | truncated (b0 : Byte)
deriving DecidableEq, Repr

/-- The first instruction of a list of bytes, and the bytes after it (R91). -/
def decode (bytes : List Byte) : Except DecodeError (Instr × List Byte) :=
  match bytes with
  | [] => .error .noBytes
  | b0 :: rest =>
    if rest.length + 1 < instrLength b0 then .error (.truncated b0)
    else .ok (decodeBytes b0 (rest.getD 0 0#8) (rest.getD 1 0#8), rest.drop (instrLength b0 - 1))

/-- A 16-bit immediate in the instruction stream: low byte, then high byte (R86). -/
def imm16Bytes (v : Word) : List Byte := [loByte v, hiByte v]

/-- The bytes of a form: the patterns of R81, fields by R82 to R87. -/
def encodeForm : Form → List Byte
  -- R_DST_SRC, R_DST_D8
  | .ldRegReg dst src => [0b01#2 ++ dst.code ++ src.code]
  | .ldRegImm dst d8 => [0b00#2 ++ dst.code ++ 0b110#3, d8]
  | .ldRegAtHL dst => [0b01#2 ++ dst.code ++ 0b110#3]
  | .ldAtHLReg src => [0b01#2 ++ 0b110#3 ++ src.code]
  | .ldAtHLImm d8 => [0b00#2 ++ 0b110#3 ++ 0b110#3, d8]
  -- IMPL, A16, A8
  | .ldAAtBC => [0x0A#8]
  | .ldAAtDE => [0x1A#8]
  | .ldAtBCA => [0x02#8]
  | .ldAtDEA => [0x12#8]
  | .ldAAtAbs a16 => 0xFA#8 :: imm16Bytes a16
  | .ldAtAbsA a16 => 0xEA#8 :: imm16Bytes a16
  | .ldhAAt a8 => [0xF0#8, a8]
  | .ldhAtA a8 => [0xE0#8, a8]
  | .ldAAtC => [0xF2#8]
  | .ldAtCA => [0xE2#8]
  | .ldAtHLIncA => [0x22#8]
  | .ldAtHLDecA => [0x32#8]
  | .ldAAtHLInc => [0x2A#8]
  | .ldAAtHLDec => [0x3A#8]
  -- RP_D16, A16, IMPL, E8, RP2
  | .ldPairImm p d16 => (0b00#2 ++ p.code ++ 0b0001#4) :: imm16Bytes d16
  | .ldAtAbsSP a16 => 0x08#8 :: imm16Bytes a16
  | .ldSPHL => [0xF9#8]
  | .ldHLSPPlus e8 => [0xF8#8, e8]
  | .push q => [0b11#2 ++ q.code ++ 0b0101#4]
  | .pop q => [0b11#2 ++ q.code ++ 0b0001#4]
  -- ALU_SRC, ALU_D8, R_DST, IMPL
  | .alu op (.loc l) => [0b10#2 ++ op.code ++ l.code]
  | .alu op (.imm d8) => [0b11#2 ++ op.code ++ 0b110#3, d8]
  | .incLoc l => [0b00#2 ++ l.code ++ 0b10#2 ++ 0#1]
  | .decLoc l => [0b00#2 ++ l.code ++ 0b10#2 ++ 1#1]
  | .daa => [0x27#8]
  | .cpl => [0x2F#8]
  | .scf => [0x37#8]
  | .ccf => [0x3F#8]
  -- RP, E8
  | .addHL p => [0b00#2 ++ p.code ++ 0b1001#4]
  | .incPair p => [0b00#2 ++ p.code ++ 0b0011#4]
  | .decPair p => [0b00#2 ++ p.code ++ 0b1011#4]
  | .addSP e8 => [0xE8#8, e8]
  -- IMPL, CB_ROT, CB_BIT
  | .rlca => [0x07#8]
  | .rrca => [0x0F#8]
  | .rla => [0x17#8]
  | .rra => [0x1F#8]
  | .rot op l => [0xCB#8, 0b00#2 ++ op.code ++ l.code]
  | .bit n l => [0xCB#8, 0b01#2 ++ n ++ l.code]
  | .res n l => [0xCB#8, 0b10#2 ++ n ++ l.code]
  | .set n l => [0xCB#8, 0b11#2 ++ n ++ l.code]
  -- A16, CC_A16, IMPL, E8, CC_E8, CC, RST
  | .jp a16 => 0xC3#8 :: imm16Bytes a16
  | .jpIf cc a16 => (0b110#3 ++ cc.code ++ 0b010#3) :: imm16Bytes a16
  | .jpHL => [0xE9#8]
  | .jr e8 => [0x18#8, e8]
  | .jrIf cc e8 => [0b001#3 ++ cc.code ++ 0b000#3, e8]
  | .call a16 => 0xCD#8 :: imm16Bytes a16
  | .callIf cc a16 => (0b110#3 ++ cc.code ++ 0b100#3) :: imm16Bytes a16
  | .ret => [0xC9#8]
  | .retIf cc => [0b110#3 ++ cc.code ++ 0b000#3]
  | .reti => [0xD9#8]
  | .rst t => [0b11#2 ++ t ++ 0b111#3]
  -- IMPL, D8, PREFIX, ILLEGAL
  | .nop => [0x00#8]
  | .halt => [0x76#8]
  | .stop ignored => [0x10#8, ignored]
  | .di => [0xF3#8]
  | .ei => [0xFB#8]
  | .prefixed ext => [0xCB#8, ext]
  | .undefinedByte opcode => [opcode]

/-- The bytes of an instruction. -/
def encode (i : Instr) : List Byte := encodeForm i.form

/-- Byte `k` of a number whose bit 0 is the least significant bit of byte 0. -/
def tableByte (w k : Nat) : Byte := BitVec.ofNat 8 (w / 256 ^ k)

/-- The three bytes at the instruction's address for an opcode-table word (log 12). A row of 8 bits gives byte 0. The
table numbers the bits of its 16-bit rows, the extended ones, with byte 0 (0xCB) in bits 15..8; a word that has 0xCB
in bits 7..0 instead is read with byte 0 there. The bits above `nbits` are 0. -/
def tableWordBytes (nbits w : Nat) : Byte × Byte × Byte :=
  let v := w % 2 ^ nbits
  if nbits = 16 ∧ tableByte v 1 = 0xCB#8 then (tableByte v 1, tableByte v 0, 0#8)
  else (tableByte v 0, tableByte v 1, tableByte v 2)

/-- The instruction the decoder reads from an opcode-table word. -/
def decodeTableWord (nbits w : Nat) : Option Instr :=
  let b := tableWordBytes nbits w
  match decode [b.1, b.2.1, b.2.2] with
  | .ok (i, _) => some i
  | .error _ => none

end Sys2Proof
end

