-- ==== Sys2Proof/Machine/Costs.lean ====
section
/-! DEFINITION. COST_TABLE (00_scope.md R5, 70_reset_and_hazards.md R349, D19), the configuration table from which every
meaning takes its cost: the cost column of the grid of 30_encoding.md R88, R94 for the extended table, and the halted
step. Its ground is "general knowledge, unaudited" (R349; log 17); it is keyed by the instruction's bytes, as the spec
keys it. -/

namespace Sys2Proof.Config

/-- The cost column of R88, the taken cost of a conditional transfer (0 at 0xCB, whose cost is the extended row's, and
at the undefined bytes). -/
def takenCostRow : Nat → List Nat
  | 0x0 => [1, 3, 2, 2, 1, 1, 2, 1, 5, 2, 2, 2, 1, 1, 2, 1]
  | 0x1 => [1, 3, 2, 2, 1, 1, 2, 1, 3, 2, 2, 2, 1, 1, 2, 1]
  | 0x2 => [3, 3, 2, 2, 1, 1, 2, 1, 3, 2, 2, 2, 1, 1, 2, 1]
  | 0x3 => [3, 3, 2, 2, 3, 3, 3, 1, 3, 2, 2, 2, 1, 1, 2, 1]
  | 0x4 => [1, 1, 1, 1, 1, 1, 2, 1, 1, 1, 1, 1, 1, 1, 2, 1]
  | 0x5 => [1, 1, 1, 1, 1, 1, 2, 1, 1, 1, 1, 1, 1, 1, 2, 1]
  | 0x6 => [1, 1, 1, 1, 1, 1, 2, 1, 1, 1, 1, 1, 1, 1, 2, 1]
  | 0x7 => [2, 2, 2, 2, 2, 2, 1, 2, 1, 1, 1, 1, 1, 1, 2, 1]
  | 0x8 => [1, 1, 1, 1, 1, 1, 2, 1, 1, 1, 1, 1, 1, 1, 2, 1]
  | 0x9 => [1, 1, 1, 1, 1, 1, 2, 1, 1, 1, 1, 1, 1, 1, 2, 1]
  | 0xA => [1, 1, 1, 1, 1, 1, 2, 1, 1, 1, 1, 1, 1, 1, 2, 1]
  | 0xB => [1, 1, 1, 1, 1, 1, 2, 1, 1, 1, 1, 1, 1, 1, 2, 1]
  | 0xC => [5, 3, 4, 4, 6, 4, 2, 4, 5, 4, 4, 0, 6, 6, 2, 4]
  | 0xD => [5, 3, 4, 0, 6, 4, 2, 4, 5, 4, 4, 0, 6, 0, 2, 4]
  | 0xE => [3, 3, 2, 0, 0, 4, 2, 4, 4, 1, 4, 0, 0, 0, 2, 4]
  | _ => [3, 3, 2, 1, 0, 4, 2, 4, 3, 2, 4, 1, 0, 0, 2, 4]

/-- The cost column of R88, the not-taken cost of a conditional transfer. -/
def notTakenCostRow : Nat → List Nat
  | 0x0 => [1, 3, 2, 2, 1, 1, 2, 1, 5, 2, 2, 2, 1, 1, 2, 1]
  | 0x1 => [1, 3, 2, 2, 1, 1, 2, 1, 3, 2, 2, 2, 1, 1, 2, 1]
  | 0x2 => [2, 3, 2, 2, 1, 1, 2, 1, 2, 2, 2, 2, 1, 1, 2, 1]
  | 0x3 => [2, 3, 2, 2, 3, 3, 3, 1, 2, 2, 2, 2, 1, 1, 2, 1]
  | 0x4 => [1, 1, 1, 1, 1, 1, 2, 1, 1, 1, 1, 1, 1, 1, 2, 1]
  | 0x5 => [1, 1, 1, 1, 1, 1, 2, 1, 1, 1, 1, 1, 1, 1, 2, 1]
  | 0x6 => [1, 1, 1, 1, 1, 1, 2, 1, 1, 1, 1, 1, 1, 1, 2, 1]
  | 0x7 => [2, 2, 2, 2, 2, 2, 1, 2, 1, 1, 1, 1, 1, 1, 2, 1]
  | 0x8 => [1, 1, 1, 1, 1, 1, 2, 1, 1, 1, 1, 1, 1, 1, 2, 1]
  | 0x9 => [1, 1, 1, 1, 1, 1, 2, 1, 1, 1, 1, 1, 1, 1, 2, 1]
  | 0xA => [1, 1, 1, 1, 1, 1, 2, 1, 1, 1, 1, 1, 1, 1, 2, 1]
  | 0xB => [1, 1, 1, 1, 1, 1, 2, 1, 1, 1, 1, 1, 1, 1, 2, 1]
  | 0xC => [2, 3, 3, 4, 3, 4, 2, 4, 2, 4, 3, 0, 3, 6, 2, 4]
  | 0xD => [2, 3, 3, 0, 3, 4, 2, 4, 2, 4, 3, 0, 3, 0, 2, 4]
  | 0xE => [3, 3, 2, 0, 0, 4, 2, 4, 4, 1, 4, 0, 0, 0, 2, 4]
  | _ => [3, 3, 2, 1, 0, 4, 2, 4, 3, 2, 4, 1, 0, 0, 2, 4]

/-- A cell of a grid, by byte 0: the row of its high nibble, the column of its low nibble. -/
def gridCell (row : Nat → List Nat) (b0 : Byte) : Nat := (row (b0.toNat / 16)).getD (b0.toNat % 16) 0

/-- R94: "extended register forms 2; extended `(HL)` forms 4, except `BIT b,(HL)` 3". -/
def extendedCost (ext : Byte) : Nat :=
  if ext.extractLsb' 0 3 = 0b110#3 then (if ext.extractLsb' 6 2 = 0b01#2 then 3 else 4) else 2

/-- The cost of the instruction encoded by `bytes`, taken or not (R88, R94). -/
def tableCost (bytes : List Byte) (isTaken : Bool) : Nat :=
  let b0 := bytes.getD 0 0#8
  if b0 = 0xCB#8 then extendedCost (bytes.getD 1 0#8)
  else if isTaken then gridCell takenCostRow b0
  else gridCell notTakenCostRow b0

/-- The cost of a halted step (R310, R349). -/
def haltedStepCycles : Nat := 1

end Sys2Proof.Config

namespace Sys2Proof.Machine

/-- The cost the table gives an instruction of this form; for a conditional transfer, when it is taken. -/
def costOf (f : Form) : Nat := Config.tableCost (encodeForm f) true

/-- The cost the table gives a conditional transfer that is not taken. -/
def costNotTaken (f : Form) : Nat := Config.tableCost (encodeForm f) false

end Sys2Proof.Machine
end

