-- ==== Sys2Proof/Config.lean ====
section
/-! DEFINITION. The parameters of 00_scope.md R5 that the model computes with, at the values this hardware takes, and the
parameter MEMORY, which the spec leaves open: the regions of a memory map and what a device answers. COST_TABLE is the
configuration table of Machine/Costs.lean (log 17). The other parameters of R5 are choices that are built into the
definitions named in the assumption log: EI_DELAY = false (log 5), HALT_BUG = false and HALT_WAKE_WHEN_DISABLED = false
(log 6), STOP_BEHAVIOUR = nop2 (log 4), PENDING_POLICY = refuse (log 9), WORD_ACCESS_ORDER = low first (log 14). -/

namespace Sys2Proof

/-- One call on the Memory Interface (20_memory.md R50): `read_byte` or `write_byte`. The fetch of an instruction byte is
a read like any other. -/
inductive Access where
  /-- `read_byte(a)`. -/
  | read (a : Word)
  /-- `write_byte(a, v)`. -/
  | write (a : Word) (v : Byte)
deriving DecidableEq, Repr

/-- The address an access presents. -/
def Access.address : Access → Word
  | .read a => a
  | .write a _ => a

/-- What the platform has mapped at an address (R58, R59, D14). -/
inductive RegionKind where
  /-- Storage: a read answers the last byte written, or the launch byte. -/
  | ram
  /-- Storage that the core cannot change: a write completes and changes nothing. -/
  | rom
  /-- Anything else: reads and writes may have side effects, and a read answers what `Config.deviceAnswer` says. -/
  | device
deriving DecidableEq, Repr

/-- A window of the memory map: `size` bytes from `base`, wrapping past 0xFFFF. -/
structure Region where
  base : Word
  size : Nat
  kind : RegionKind
deriving DecidableEq, Repr

namespace Config

/-- `CYCLE_WIDTH` (R5, D1): the width of the cycle counter that the host reads. -/
def cycleWidth : Nat := 64

/-- The bound of D1: every step is taken under the precondition `cycles < 2^64 - 6`. DESIGN CHOICE of the spec
(log 8, safe). -/
def cycleLimit : Nat := 2 ^ cycleWidth - 6

/-- `INT_DISPATCH_CYCLES` (R309, D5): the cost of an interrupt delivery. DESIGN CHOICE of the spec (log 7, unsafe
for claims about real parts, which spend 5). -/
def intDispatchCycles : Nat := 0

/-- The behaviour of the devices (the open half of MEMORY: R5, D14, U8): the byte that a read of a device address
answers, given every access that devices have seen so far, latest first. A free value: "`any value` drawn by the
interface, never a fixed constant", and always some byte, so that no access faults (R63; log 2). -/
opaque deviceAnswer : List Access → Word → Byte

end Config

end Sys2Proof
end

