-- ==== Sys2Proof/Machine/State.lean ====
section
/-! DEFINITION. State as plain data: every piece of state 10_state.md gives the core, and the Memory Interface
behind it as a parameter; the reasons a step can stop; the state right after reset. -/

namespace Sys2Proof.Machine

/-- Memory as the list of the bytes that differ from what an unlisted address reads as, addresses strictly rising
(`Memory.wf` in Machine/Ops.lean states the form). -/
abbrev Memory := List Host.Cell

/-- The state of the machine (10_state.md R20 to R32, R34, R37). -/
structure State where
  /-- A, the accumulator (R20). -/
  a : Byte
  /-- F, the flag byte: Z, N, H, C in bits 7 to 4, bits 3 to 0 hard-wired zero (R26, R27). -/
  f : Byte
  /-- B (R20). -/
  b : Byte
  /-- C (R20). -/
  c : Byte
  /-- D (R20). -/
  d : Byte
  /-- E (R20). -/
  e : Byte
  /-- H (R20). -/
  h : Byte
  /-- L (R20). -/
  l : Byte
  /-- SP, the stack pointer (R22). -/
  sp : Word
  /-- PC: at a step boundary, the address of the next opcode byte (R23). -/
  pc : Word
  /-- IME, the global interrupt enable (R30). -/
  ime : Bool
  /-- The halt flag (R29). -/
  halted : Bool
  /-- The pending-interrupt slot: empty, or one vector (R31). -/
  pending : Option Word
  /-- The machine-cycle counter, an unbounded natural number (R32, D1). -/
  cycles : Nat
  /-- The storage behind the Memory Interface, at every address that is no device's (R37, R50). -/
  mem : Memory
  /-- The platform's memory map (the parameter MEMORY of 00_scope.md R5, D14; log 2): the first window that holds an
  address says what is there, and an address in no window is RAM. No step changes it. -/
  map : List Region
  /-- The accesses that device addresses have seen, latest first: what the devices' side of the Memory Interface may
  depend on (20_memory.md R58; log 2). The model's own field. -/
  bus : List Access
deriving DecidableEq, Repr

/-- Why the machine stops with a fault. -/
inductive Fault where
  /-- `UnknownOpcode{opcode, pc, cycles}` (60_exceptions.md R301, 47_misc_control.md R286). Raised by the meanings
  of the 11 undefined bytes and by nothing else; it carries the byte, the address it was read from and the counter.
  Safe: the spec's own fault, which stops the machine where a real part locks up. -/
  | unknownOpcode (opcode : Byte) (pc : Word) (cycles : Nat)
deriving DecidableEq, Repr

/-- Why an operation has no meaning. -/
inductive Refusal where
  /-- An instruction that has no meaning yet. Raised by an arm of `exec` only; no arm raises it now. Safe. -/
  | notModelled (mnemonic : String)
  /-- The cycle counter has reached the bound of D1 (`Config.cycleLimit`). Raised by `step` only, before anything
  else: D1 says "reaching the bound is `refuse`, not wrap". Safe. -/
  | cycleCounterFull
  /-- A second `request_interrupt` while one is pending (R306, D3). Raised by `requestInterrupt` only, a host call:
  the spec "leaves it undefined and tells the model to refuse it". Safe. -/
  | pendingSlotFull
deriving DecidableEq, Repr

/-- The machine right after reset (10_state.md R35, 70_reset_and_hazards.md R340). Memory lists nothing: every byte
reads as `Memory.unlisted` (log 1). The map lists no window: flat RAM, "the simplest instance" of D14 (log 2). -/
def State.reset : State where
  a := 0x01#8
  f := 0xB0#8
  b := 0x00#8
  c := 0x13#8
  d := 0x00#8
  e := 0xD8#8
  h := 0x01#8
  l := 0x4D#8
  sp := 0xFFFE#16
  pc := 0x0100#16
  ime := false
  halted := false
  pending := none
  cycles := 0
  mem := []
  map := []
  bus := []

/-- The three outcomes of an instruction or a step. -/
abbrev Result := Host.Outcome State Fault Refusal

end Sys2Proof.Machine
end

