-- ==== Sys2Proof/Machine/Flags.lean ====
section
/-! DEFINITION. The flag byte and every ALU primitive of 40_alu_primitives.md with its flag results. A primitive
computes on unbounded numbers and narrows at the end, as R110 and R6 write it. -/

namespace Sys2Proof.Machine

/-- Flag Z, bit 7 of F (R26). -/
def State.fZ (s : State) : Bool := s.f.getLsbD 7

/-- Flag N, bit 6 of F (R26). -/
def State.fN (s : State) : Bool := s.f.getLsbD 6

/-- Flag H, bit 5 of F (R26). -/
def State.fH (s : State) : Bool := s.f.getLsbD 5

/-- Flag C, bit 4 of F (R26). -/
def State.fC (s : State) : Bool := s.f.getLsbD 4

/-- `fZ ++ fN ++ fH ++ fC ++ 0b0000` (R128). -/
def flagByte (z n h c : Bool) : Byte :=
  BitVec.ofBool z ++ BitVec.ofBool n ++ BitVec.ofBool h ++ BitVec.ofBool c ++ 0#4

/-- What an instruction does to the four flags: a value, or nothing where the spec writes `-` (R28). -/
structure FlagUpdate where
  /-- Z -/
  z : Option Bool
  /-- N -/
  n : Option Bool
  /-- H -/
  h : Option Bool
  /-- C -/
  c : Option Bool
deriving DecidableEq, Repr

/-- Write flag results into F: each bit the primitive's value or the old bit, the low nibble zero (R128). -/
def State.setFlags (u : FlagUpdate) (s : State) : State :=
  { s with f := flagByte (u.z.getD s.fZ) (u.n.getD s.fN) (u.h.getD s.fH) (u.c.getD s.fC) }

/-- `Z = (result == 0)`. -/
def isZero (v : Byte) : Bool := v == 0#8

/-- `add8` (R111). -/
def add8 (a b : Byte) (cin : Bool) : Byte × FlagUpdate :=
  let sum := a.toNat + b.toNat + cin.toNat
  let result := BitVec.ofNat 8 sum
  (result,
    { z := some (isZero result)
      n := some false
      h := some (decide (a.toNat % 16 + b.toNat % 16 + cin.toNat > 0x0F))
      c := some (decide (sum > 0xFF)) })

/-- `sub8` (R112): the comparisons are on unbounded numbers. -/
def sub8 (a b : Byte) (bin : Bool) : Byte × FlagUpdate :=
  let result := BitVec.ofInt 8 ((a.toNat : Int) - b.toNat - bin.toNat)
  (result,
    { z := some (isZero result)
      n := some true
      h := some (decide (a.toNat % 16 < b.toNat % 16 + bin.toNat))
      c := some (decide (a.toNat < b.toNat + bin.toNat)) })

/-- `and8` (R113). -/
def and8 (a b : Byte) : Byte × FlagUpdate :=
  (a &&& b, { z := some (isZero (a &&& b)), n := some false, h := some true, c := some false })

/-- `or8` (R113). -/
def or8 (a b : Byte) : Byte × FlagUpdate :=
  (a ||| b, { z := some (isZero (a ||| b)), n := some false, h := some false, c := some false })

/-- `xor8` (R113). -/
def xor8 (a b : Byte) : Byte × FlagUpdate :=
  (a ^^^ b, { z := some (isZero (a ^^^ b)), n := some false, h := some false, c := some false })

/-- `inc8` (R114): C is left alone. -/
def inc8 (v : Byte) : Byte × FlagUpdate :=
  let result := BitVec.ofNat 8 (v.toNat + 1)
  (result,
    { z := some (isZero result), n := some false, h := some (decide (v.toNat % 16 = 0x0F)), c := none })

/-- `dec8` (R115): C is left alone. -/
def dec8 (v : Byte) : Byte × FlagUpdate :=
  let result := BitVec.ofInt 8 ((v.toNat : Int) - 1)
  (result,
    { z := some (isZero result), n := some true, h := some (decide (v.toNat % 16 = 0x00)), c := none })

/-- `add16` (R116): Z is left alone. -/
def add16 (a b : Word) : Word × FlagUpdate :=
  let sum := a.toNat + b.toNat
  (BitVec.ofNat 16 sum,
    { z := none
      n := some false
      h := some (decide (a.toNat % 4096 + b.toNat % 4096 > 0x0FFF))
      c := some (decide (sum > 0xFFFF)) })

/-- `addsp` (R117): H and C are those of the unsigned addition of the low byte of SP and the raw byte `e`. -/
def addsp (sp : Word) (e : Byte) : Word × FlagUpdate :=
  (sp + sext16 e,
    { z := some false
      n := some false
      h := some (decide (sp.toNat % 16 + e.toNat % 16 > 0x0F))
      c := some (decide (sp.toNat % 256 + e.toNat > 0xFF)) })

/-- The flags of a rotate or shift: Z from the result, N = H = 0, C the bit shifted out (R118 to R124). -/
def shiftFlags (result : Byte) (carry : Bool) : FlagUpdate :=
  { z := some (isZero result), n := some false, h := some false, c := some carry }

/-- `rlc8` (R118): `v[6:0] ++ v[7]`. -/
def rlc8 (v : Byte) : Byte × FlagUpdate :=
  let result := v.extractLsb' 0 7 ++ v.extractLsb' 7 1
  (result, shiftFlags result (v.getLsbD 7))

/-- `rrc8` (R119): `v[0] ++ v[7:1]`. -/
def rrc8 (v : Byte) : Byte × FlagUpdate :=
  let result := v.extractLsb' 0 1 ++ v.extractLsb' 1 7
  (result, shiftFlags result (v.getLsbD 0))

/-- `rl8` (R120): `v[6:0] ++ cin`. -/
def rl8 (v : Byte) (cin : Bool) : Byte × FlagUpdate :=
  let result := v.extractLsb' 0 7 ++ BitVec.ofBool cin
  (result, shiftFlags result (v.getLsbD 7))

/-- `rr8` (R121): `cin ++ v[7:1]`. -/
def rr8 (v : Byte) (cin : Bool) : Byte × FlagUpdate :=
  let result := BitVec.ofBool cin ++ v.extractLsb' 1 7
  (result, shiftFlags result (v.getLsbD 0))

/-- `sla8` (R122): `v[6:0] ++ 0`. -/
def sla8 (v : Byte) : Byte × FlagUpdate :=
  let result := v.extractLsb' 0 7 ++ 0#1
  (result, shiftFlags result (v.getLsbD 7))

/-- `sra8` (R123): `v[7] ++ v[7:1]`. -/
def sra8 (v : Byte) : Byte × FlagUpdate :=
  let result := v.extractLsb' 7 1 ++ v.extractLsb' 1 7
  (result, shiftFlags result (v.getLsbD 0))

/-- `srl8` (R124): `0 ++ v[7:1]`. -/
def srl8 (v : Byte) : Byte × FlagUpdate :=
  let result := 0#1 ++ v.extractLsb' 1 7
  (result, shiftFlags result (v.getLsbD 0))

/-- `swap8` (R125): `v[3:0] ++ v[7:4]`, C cleared. -/
def swap8 (v : Byte) : Byte × FlagUpdate :=
  let result := v.extractLsb' 0 4 ++ v.extractLsb' 4 4
  (result, shiftFlags result false)

/-- The primitive of each extended rotate or shift; only RL and RR use the old carry (R235 to R242). -/
def rotate8 (op : RotOp) (v : Byte) (cin : Bool) : Byte × FlagUpdate :=
  match op with
  | .rlc => rlc8 v
  | .rrc => rrc8 v
  | .rl => rl8 v cin
  | .rr => rr8 v cin
  | .sla => sla8 v
  | .sra => sra8 v
  | .swap => swap8 v
  | .srl => srl8 v

/-- The flags of an accumulator rotate: C of the primitive, Z, N, H cleared whatever the result (R127). -/
def accumulatorRotateFlags (u : FlagUpdate) : FlagUpdate :=
  { z := some false, n := some false, h := some false, c := u.c }

/-- The primitive of each accumulator operation (R191 to R198); the carry takes part in ADC and SBC only. -/
def alu8 (op : AluOp) (a b : Byte) (carry : Bool) : Byte × FlagUpdate :=
  match op with
  | .add => add8 a b false
  | .adc => add8 a b carry
  | .sub => sub8 a b false
  | .sbc => sub8 a b carry
  | .and => and8 a b
  | .xor => xor8 a b
  | .or => or8 a b
  | .cp => sub8 a b false

/-- `daa8` (R126): both tests use the value of `a` before any correction; N is left alone, H cleared, C never
cleared. -/
def daa8 (a : Byte) (n h c : Bool) : Byte × FlagUpdate :=
  let low := h || (!n && decide (a.toNat % 16 > 0x09))
  let high := c || (!n && decide (a.toNat > 0x99))
  let corr : Byte := (if low then 0x06#8 else 0x00#8) ||| (if high then 0x60#8 else 0x00#8)
  let result := if n then a - corr else a + corr
  (result, { z := some (isZero result), n := none, h := some false, c := some high })

/-- The flags of `BIT n` on the value `v` (R243): Z is the complement of the tested bit; C is left alone. -/
def bitFlags (n : BitVec 3) (v : Byte) : FlagUpdate :=
  { z := some (!v.getLsbD n.toNat), n := some false, h := some true, c := none }

/-- `CPL` (R204). -/
def cplFlags : FlagUpdate := { z := none, n := some true, h := some true, c := none }

/-- `SCF` (R205). -/
def scfFlags : FlagUpdate := { z := none, n := some false, h := some false, c := some true }

/-- `CCF` (R206) with the old carry `c`. -/
def ccfFlags (c : Bool) : FlagUpdate := { z := none, n := some false, h := some false, c := some (!c) }

end Sys2Proof.Machine
end

