-- ==== Sys2Proof/Machine/Ops.lean ====
section
/-! DEFINITION. The named operations over the Memory Interface and the registers; pushing and popping; the one assignment to PC that
each instruction makes; delivering an interrupt, the return from one, and raising the one fault. -/

namespace Sys2Proof.Machine

/-- What a byte that is not listed reads as. The spec gives memory no reset contents (R342), so this is a DESIGN
CHOICE (log 1, unsafe where a claim rests on it; every claim over all states covers every launch memory). -/
def Memory.unlisted : Byte := 0x00#8

/-- The byte at address `a` (R50: `read_byte`). -/
def Memory.read : Memory → Nat → Byte
  | [], _ => Memory.unlisted
  | (k, v) :: rest, a => if a = k then v else Memory.read rest a

/-- The memory with no entry for address `a`. -/
def Memory.erase : Memory → Nat → Memory
  | [], _ => []
  | (k, x) :: rest, a => if a = k then Memory.erase rest a else (k, x) :: Memory.erase rest a

/-- An entry put before the first entry of a higher address. -/
def Memory.insert : Memory → Nat → Byte → Memory
  | [], a, v => [(a, v)]
  | (k, x) :: rest, a, v => if a < k then (a, v) :: (k, x) :: rest else (k, x) :: Memory.insert rest a v

/-- The memory with byte `v` at address `a` (R50: `write_byte`), in canonical form again: writing what an unlisted
address reads as removes the entry. -/
def Memory.write (m : Memory) (a : Nat) (v : Byte) : Memory :=
  if v = Memory.unlisted then Memory.erase m a else Memory.insert (Memory.erase m a) a v

/-- Every listed address is at least `lo` and below 2^16, the addresses rise strictly, and no entry equals what an
unlisted address reads as. -/
def Memory.wfFrom : Nat → Memory → Bool
  | _, [] => true
  | lo, (k, v) :: rest =>
    decide (lo ≤ k) && decide (k < 65536) && decide (v ≠ Memory.unlisted) && Memory.wfFrom (k + 1) rest

/-- The canonical form of memory. -/
def Memory.wf (m : Memory) : Bool := Memory.wfFrom 0 m

/-- Whether the window holds address `a`. -/
def Region.holds (r : Region) (a : Word) : Bool := decide ((a - r.base).toNat < r.size)

/-- What a memory map has at address `a`: the kind of the first window that holds it, else RAM (D14, log 2). -/
def mapKind : List Region → Word → RegionKind
  | [], _ => .ram
  | r :: rest, a => if Region.holds r a then r.kind else mapKind rest a

/-- What the platform has at address `a`. -/
def State.kind (s : State) (a : Word) : RegionKind := mapKind s.map a

/-- The byte of storage at address `a`: what a read answers there unless it is a device's. -/
def State.stored (s : State) (a : Word) : Byte := Memory.read s.mem a.toNat

/-- What `MemRead(a, 1)` delivers (R51): the byte of storage, or a device's answer (R58, R63, U8). -/
def State.readByte (s : State) (a : Word) : Byte :=
  if s.kind a = .device then Config.deviceAnswer s.bus a else s.stored a

/-- The state after `MemRead(a, 1)`: a device sees the read, and nothing else changes (R58). -/
def State.afterRead (a : Word) (s : State) : State :=
  { s with bus := if s.kind a = .device then .read a :: s.bus else s.bus }

/-- What `MemRead(a, 2)` delivers (R51, R52): little-endian, the low byte read first (R57, D12, log 14), the high byte at
`(a+1) mod 2^16`. -/
def State.readWord (s : State) (a : Word) : Word := joinBytes ((s.afterRead a).readByte (a + 1#16)) (s.readByte a)

/-- The state after `MemRead(a, 2)`. -/
def State.afterReadWord (a : Word) (s : State) : State := (s.afterRead a).afterRead (a + 1#16)

/-- `MemWrite(a, 1, v)` (R51): RAM takes the byte, ROM drops it, a device sees the write (R58, U8). -/
def State.writeByte (a : Word) (v : Byte) (s : State) : State :=
  { s with
    mem := if s.kind a = .ram then Memory.write s.mem a.toNat v else s.mem
    bus := if s.kind a = .device then .write a v :: s.bus else s.bus }

/-- `MemWrite(a, 2, v)` (R51, R52), low address first (R57, D12, log 14). -/
def State.writeWord (a : Word) (v : Word) (s : State) : State :=
  (s.writeByte a (loByte v)).writeByte (a + 1#16) (hiByte v)

/-- `x[i]` (R7). -/
def State.reg (s : State) : Reg8 → Byte
  | .b => s.b
  | .c => s.c
  | .d => s.d
  | .e => s.e
  | .h => s.h
  | .l => s.l
  | .a => s.a

/-- `x[i] <- v` (R7). -/
def State.setReg (r : Reg8) (v : Byte) (s : State) : State :=
  match r with
  | .b => { s with b := v }
  | .c => { s with c := v }
  | .d => { s with d := v }
  | .e => { s with e := v }
  | .h => { s with h := v }
  | .l => { s with l := v }
  | .a => { s with a := v }

/-- F as an instruction reads it whole: the four hard-wired bits read as zero (R20, R27, U18; log 13). -/
def State.flagsRead (s : State) : Byte := s.f &&& 0xF0#8

/-- HL, the pointer of every `(HL)` operand (R21). -/
def State.hl (s : State) : Word := joinBytes s.h s.l

/-- BC (R21). -/
def State.bc (s : State) : Word := joinBytes s.b s.c

/-- DE (R21). -/
def State.de (s : State) : Word := joinBytes s.d s.e

/-- `HL <- v` (R7). -/
def State.setHL (v : Word) (s : State) : State := { s with h := hiByte v, l := loByte v }

/-- The value of a pair of the SP group (R21, R22, R83). -/
def State.pair (s : State) : Pair → Word
  | .bc => s.bc
  | .de => s.de
  | .hl => s.hl
  | .sp => s.sp

/-- Write a pair of the SP group: both halves, or SP (R21, R22). -/
def State.setPair (p : Pair) (v : Word) (s : State) : State :=
  match p with
  | .bc => { s with b := hiByte v, c := loByte v }
  | .de => { s with d := hiByte v, e := loByte v }
  | .hl => s.setHL v
  | .sp => { s with sp := v }

/-- The value of a pair of the AF group (R83); `AF = A ++ F` (R21). -/
def State.stackPair (s : State) : StackPair → Word
  | .bc => s.bc
  | .de => s.de
  | .hl => s.hl
  | .af => joinBytes s.a s.flagsRead

/-- Write a pair of the AF group; `AF <- v` masks the low nibble (R7, R176). -/
def State.setStackPair (q : StackPair) (v : Word) (s : State) : State :=
  match q with
  | .bc => { s with b := hiByte v, c := loByte v }
  | .de => { s with d := hiByte v, e := loByte v }
  | .hl => s.setHL v
  | .af => { s with a := hiByte v, f := loByte v &&& 0xF0#8 }

/-- Push a word: first `SP <- (SP - 2) mod 2^16`, then write at the new SP (R22, R174). -/
def State.push (v : Word) (s : State) : State :=
  ({ s with sp := s.sp - 2#16 } : State).writeWord (s.sp - 2#16) v

/-- The state after the word on top of the stack is read and dropped: `SP <- (SP + 2) mod 2^16` (R22, R175). The word
itself is `s.readWord s.sp`. -/
def State.dropWord (s : State) : State := { s.afterReadWord s.sp with sp := s.sp + 2#16 }

/-- `next`: the address of the following instruction (R23), with PC still at the opcode byte. -/
def State.next (len : Nat) (s : State) : Word := s.pc + BitVec.ofNat 16 len

/-- The end of a sequential instruction: `PC <- PC + length` and the cost (R24). -/
def State.advance (len cost : Nat) (s : State) : State :=
  { s with pc := s.next len, cycles := s.cycles + cost }

/-- The end of a control transfer: PC assigned directly, and the cost (R24, R345). -/
def State.jump (target : Word) (cost : Nat) (s : State) : State :=
  { s with pc := target, cycles := s.cycles + cost }

/-- The cost of an interrupt delivery (R309, D5, log 7). -/
def deliveryCost : Nat := Config.intDispatchCycles

/-- Taking an interrupt: delivery of the vector `v` (60_exceptions.md R308). Only PC is saved, on the stack; IME is
cleared, `halted` is cleared, the slot is emptied, PC is the vector itself. -/
def deliver (v : Word) (s : State) : State :=
  { (s.push s.pc).jump v deliveryCost with halted := false, ime := false, pending := none }

/-- The return from an interrupt (R270, R314): PC is popped, SP restored, IME set in the same step. -/
def returnFromInterrupt (cost : Nat) (s : State) : State :=
  { s.dropWord.jump (s.readWord s.sp) cost with ime := true }

/-- Raising the one fault (R286, R301): the report carries the opcode, PC and the counter; nothing is changed. -/
def raiseUnknownOpcode (opcode : Byte) (s : State) : Result :=
  .fault (.unknownOpcode opcode s.pc s.cycles)

/-- The halted step (R310): nothing but its cycle. -/
def haltedStep (s : State) : State := { s with cycles := s.cycles + Config.haltedStepCycles }

end Sys2Proof.Machine
end

