-- ==== Sys2Proof/Machine/Operands.lean ====
section
/-! DEFINITION. Every operand form of 30_encoding.md R81 to R87: locations, accumulator sources, the high page,
conditions, jump displacements and restart targets. -/

namespace Sys2Proof.Machine

/-- Reading an operand location: a register, or `MemRead(HL, 1)` (R82, R234). -/
def State.readLoc (s : State) : Loc → Byte
  | .reg r => s.reg r
  | .atHL => s.readByte s.hl

/-- The state after reading an operand location. -/
def State.afterReadLoc (l : Loc) (s : State) : State :=
  match l with
  | .reg _ => s
  | .atHL => s.afterRead s.hl

/-- Writing an operand location: a register, or `MemWrite(HL, 1, v)` (R82, R234, C1). -/
def State.writeLoc (l : Loc) (v : Byte) (s : State) : State :=
  match l with
  | .reg r => s.setReg r v
  | .atHL => s.writeByte s.hl v

/-- The value of the source operand of an accumulator operation (R190). -/
def State.source (s : State) : Src → Byte
  | .loc l => s.readLoc l
  | .imm d8 => d8

/-- The state after reading the source operand of an accumulator operation. -/
def State.afterSource (src : Src) (s : State) : State :=
  match src with
  | .loc l => s.afterReadLoc l
  | .imm _ => s

/-- Length of an accumulator operation by its source (R190). -/
def sourceLength : Src → Nat
  | .loc _ => 1
  | .imm _ => 2

/-- The effective address `0xFF00 + zext_16(low)` of the high page (R86, R151). -/
def highPage (low : Byte) : Word := 0xFF00#16 + zext16 low

/-- `cond(cc)` (R85, R260). -/
def State.cond (s : State) : Cond → Bool
  | .nz => !s.fZ
  | .z => s.fZ
  | .nc => !s.fC
  | .c => s.fC

/-- Whether a conditional transfer is taken in this state; true for every other instruction. -/
def taken (i : Instr) (s : State) : Bool :=
  match i.form with
  | .jpIf cc _ | .jrIf cc _ | .callIf cc _ | .retIf cc => s.cond cc
  | _ => true

/-- The restart target `zext_16(ttt) * 8` (R87, R271). -/
def restartTarget (t : BitVec 3) : Word := t.setWidth 16 * 8#16

end Sys2Proof.Machine
end

