-- ==== Sys2Proof/Machine/Boundary.lean ====
section
/-! DEFINITION. The step boundary (60_exceptions.md R300): fetching an instruction's bytes, and which of the four
things a step does. -/

namespace Sys2Proof.Machine

/-- Reading the bytes at the addresses one after the other: the bytes, and the state after the reads. -/
def readInOrder : List Word → State → List Byte × State
  | [], s => ([], s)
  | a :: rest, s =>
    let r := readInOrder rest (s.afterRead a)
    (s.readByte a :: r.1, r.2)

/-- The addresses of the instruction's bytes, wrapping past 0xFFFF (R25, R53); byte 0 gives the length (R80). -/
def fetchAddresses (s : State) : List Word :=
  (List.range (instrLength (s.readByte s.pc))).map fun k => s.pc + BitVec.ofNat 16 k

/-- The instruction's bytes, read through the Memory Interface at the moment of the step (R56, R62). -/
def fetchBytes (s : State) : List Byte := (readInOrder (fetchAddresses s) s).1

/-- The state once the instruction's bytes are read: a device that some of them were read from has seen the reads. -/
def fetched (s : State) : State := (readInOrder (fetchAddresses s) s).2

/-- The instruction at PC. The bytes read are exactly the instruction's, so the zeros past its end decode to
nothing. -/
def fetchInstr (s : State) : Instr :=
  let bytes := fetchBytes s
  decodeBytes (bytes.getD 0 0#8) (bytes.getD 1 0#8) (bytes.getD 2 0#8)

/-- What a step does. -/
inductive Boundary where
  /-- The precondition of D1 fails: the counter has reached its bound (log 8). -/
  | counterFull
  /-- R300 case 1: an interrupt is delivered. -/
  | deliver (v : Word)
  /-- R300 case 2: the halted step. -/
  | halted
  /-- R300 cases 3 and 4: the instruction at PC, or the fault of an undefined byte. -/
  | execute (i : Instr)
deriving DecidableEq, Repr

/-- The choice at the step boundary, in the order of R300: delivery, the halted step, fetch (D4, D17, log 16). -/
def boundary (s : State) : Boundary :=
  if Config.cycleLimit ≤ s.cycles then .counterFull
  else
    match s.pending, s.ime with
    | some v, true => .deliver v
    | _, _ => if s.halted then .halted else .execute (fetchInstr s)

end Sys2Proof.Machine
end

