-- ==== Sys2Proof/Machine/Alu16.lean ====
section
/-! DEFINITION. 16-bit arithmetic (44_alu16.md R220 to R223), sequential, no data memory. -/

namespace Sys2Proof.Machine

/-- `ADD HL,rr` (R220). -/
def addToHL (p : Pair) (s : State) : Result :=
  let r := add16 s.hl (s.pair p)
  .next (((s.setHL r.1).setFlags r.2).advance 1 (costOf (.addHL p)))

/-- `INC rr` (R221): no flag. -/
def incrementPair (p : Pair) (s : State) : Result :=
  .next ((s.setPair p (s.pair p + 1#16)).advance 1 (costOf (.incPair p)))

/-- `DEC rr` (R222): no flag. -/
def decrementPair (p : Pair) (s : State) : Result :=
  .next ((s.setPair p (s.pair p - 1#16)).advance 1 (costOf (.decPair p)))

/-- `ADD SP,e8` (R223). -/
def addToSP (e8 : Byte) (s : State) : Result :=
  let r := addsp s.sp e8
  .next (((s.setPair .sp r.1).setFlags r.2).advance 2 (costOf (.addSP e8)))

/-- INC BC (R221). -/
def execInc_BC (s : State) : Result := incrementPair .bc s

/-- ADD HL,BC (R220). -/
def execAdd_HL_BC (s : State) : Result := addToHL .bc s

/-- DEC BC (R222). -/
def execDec_BC (s : State) : Result := decrementPair .bc s

/-- INC DE (R221). -/
def execInc_DE (s : State) : Result := incrementPair .de s

/-- ADD HL,DE (R220). -/
def execAdd_HL_DE (s : State) : Result := addToHL .de s

/-- DEC DE (R222). -/
def execDec_DE (s : State) : Result := decrementPair .de s

/-- INC HL (R221). -/
def execInc_HL (s : State) : Result := incrementPair .hl s

/-- ADD HL,HL (R220). -/
def execAdd_HL_HL (s : State) : Result := addToHL .hl s

/-- DEC HL (R222). -/
def execDec_HL (s : State) : Result := decrementPair .hl s

/-- INC SP (R221). -/
def execInc_SP (s : State) : Result := incrementPair .sp s

/-- ADD HL,SP (R220). -/
def execAdd_HL_SP (s : State) : Result := addToHL .sp s

/-- DEC SP (R222). -/
def execDec_SP (s : State) : Result := decrementPair .sp s

/-- ADD SP,e8 (R223). -/
def execAdd_SP_e8 (e8 : Byte) (s : State) : Result := addToSP e8 s

end Sys2Proof.Machine
end

