-- ==== Sys2Proof/Machine/Alu8.lean ====
section
/-! DEFINITION. 8-bit arithmetic and logic (43_alu8.md R190 to R206), sequential. The primitives and their flags are in
Machine/Flags.lean. -/

namespace Sys2Proof.Machine

/-- The accumulator operations that write A: ADD, ADC, SUB, SBC, AND, XOR, OR (R190 to R197). -/
def accumulate (op : AluOp) (src : Src) (s : State) : Result :=
  let r := alu8 op s.a (s.source src) s.fC
  .next ((((s.afterSource src).setReg .a r.1).setFlags r.2).advance (sourceLength src) (costOf (.alu op src)))

/-- `CP` (R198): the flags of SUB, the result discarded. -/
def compareA (src : Src) (s : State) : Result :=
  .next (((s.afterSource src).setFlags (alu8 .cp s.a (s.source src) s.fC).2).advance (sourceLength src)
    (costOf (.alu .cp src)))

/-- `INC r` and `INC (HL)` (R199, R200). -/
def incrementAt (l : Loc) (s : State) : Result :=
  let r := inc8 (s.readLoc l)
  .next ((((s.afterReadLoc l).writeLoc l r.1).setFlags r.2).advance 1 (costOf (.incLoc l)))

/-- `DEC r` and `DEC (HL)` (R201, R202). -/
def decrementAt (l : Loc) (s : State) : Result :=
  let r := dec8 (s.readLoc l)
  .next ((((s.afterReadLoc l).writeLoc l r.1).setFlags r.2).advance 1 (costOf (.decLoc l)))

/-- `DAA` (R203). -/
def decimalAdjust (s : State) : Result :=
  let r := daa8 s.a s.fN s.fH s.fC
  .next (((s.setReg .a r.1).setFlags r.2).advance 1 (costOf .daa))

/-- `CPL` (R204). -/
def complementA (s : State) : Result :=
  .next (((s.setReg .a (~~~s.a)).setFlags cplFlags).advance 1 (costOf .cpl))

/-- `SCF` and `CCF` (R205, R206). -/
def changeCarry (u : FlagUpdate) (cost : Nat) (s : State) : Result :=
  .next ((s.setFlags u).advance 1 cost)

/-- INC B (R199). -/
def execInc_B (s : State) : Result := incrementAt (.reg .b) s

/-- DEC B (R201). -/
def execDec_B (s : State) : Result := decrementAt (.reg .b) s

/-- INC C (R199). -/
def execInc_C (s : State) : Result := incrementAt (.reg .c) s

/-- DEC C (R201). -/
def execDec_C (s : State) : Result := decrementAt (.reg .c) s

/-- INC D (R199). -/
def execInc_D (s : State) : Result := incrementAt (.reg .d) s

/-- DEC D (R201). -/
def execDec_D (s : State) : Result := decrementAt (.reg .d) s

/-- INC E (R199). -/
def execInc_E (s : State) : Result := incrementAt (.reg .e) s

/-- DEC E (R201). -/
def execDec_E (s : State) : Result := decrementAt (.reg .e) s

/-- INC H (R199). -/
def execInc_H (s : State) : Result := incrementAt (.reg .h) s

/-- DEC H (R201). -/
def execDec_H (s : State) : Result := decrementAt (.reg .h) s

/-- DAA (R203). -/
def execDaa (s : State) : Result := decimalAdjust s

/-- INC L (R199). -/
def execInc_L (s : State) : Result := incrementAt (.reg .l) s

/-- DEC L (R201). -/
def execDec_L (s : State) : Result := decrementAt (.reg .l) s

/-- CPL (R204). -/
def execCpl (s : State) : Result := complementA s

/-- INC (HL) (R200). -/
def execInc_atHL (s : State) : Result := incrementAt .atHL s

/-- DEC (HL) (R202). -/
def execDec_atHL (s : State) : Result := decrementAt .atHL s

/-- SCF (R205). -/
def execScf (s : State) : Result := changeCarry scfFlags (costOf .scf) s

/-- INC A (R199). -/
def execInc_A (s : State) : Result := incrementAt (.reg .a) s

/-- DEC A (R201). -/
def execDec_A (s : State) : Result := decrementAt (.reg .a) s

/-- CCF (R206). -/
def execCcf (s : State) : Result := changeCarry (ccfFlags s.fC) (costOf .ccf) s

/-- ADD A,B (R191). -/
def execAdd_A_B (s : State) : Result := accumulate .add (.loc (.reg .b)) s

/-- ADD A,C (R191). -/
def execAdd_A_C (s : State) : Result := accumulate .add (.loc (.reg .c)) s

/-- ADD A,D (R191). -/
def execAdd_A_D (s : State) : Result := accumulate .add (.loc (.reg .d)) s

/-- ADD A,E (R191). -/
def execAdd_A_E (s : State) : Result := accumulate .add (.loc (.reg .e)) s

/-- ADD A,H (R191). -/
def execAdd_A_H (s : State) : Result := accumulate .add (.loc (.reg .h)) s

/-- ADD A,L (R191). -/
def execAdd_A_L (s : State) : Result := accumulate .add (.loc (.reg .l)) s

/-- ADD A,(HL) (R191). -/
def execAdd_A_atHL (s : State) : Result := accumulate .add (.loc .atHL) s

/-- ADD A,A (R191). -/
def execAdd_A_A (s : State) : Result := accumulate .add (.loc (.reg .a)) s

/-- ADC A,B (R192). -/
def execAdc_A_B (s : State) : Result := accumulate .adc (.loc (.reg .b)) s

/-- ADC A,C (R192). -/
def execAdc_A_C (s : State) : Result := accumulate .adc (.loc (.reg .c)) s

/-- ADC A,D (R192). -/
def execAdc_A_D (s : State) : Result := accumulate .adc (.loc (.reg .d)) s

/-- ADC A,E (R192). -/
def execAdc_A_E (s : State) : Result := accumulate .adc (.loc (.reg .e)) s

/-- ADC A,H (R192). -/
def execAdc_A_H (s : State) : Result := accumulate .adc (.loc (.reg .h)) s

/-- ADC A,L (R192). -/
def execAdc_A_L (s : State) : Result := accumulate .adc (.loc (.reg .l)) s

/-- ADC A,(HL) (R192). -/
def execAdc_A_atHL (s : State) : Result := accumulate .adc (.loc .atHL) s

/-- ADC A,A (R192). -/
def execAdc_A_A (s : State) : Result := accumulate .adc (.loc (.reg .a)) s

/-- SUB A,B (R193). -/
def execSub_A_B (s : State) : Result := accumulate .sub (.loc (.reg .b)) s

/-- SUB A,C (R193). -/
def execSub_A_C (s : State) : Result := accumulate .sub (.loc (.reg .c)) s

/-- SUB A,D (R193). -/
def execSub_A_D (s : State) : Result := accumulate .sub (.loc (.reg .d)) s

/-- SUB A,E (R193). -/
def execSub_A_E (s : State) : Result := accumulate .sub (.loc (.reg .e)) s

/-- SUB A,H (R193). -/
def execSub_A_H (s : State) : Result := accumulate .sub (.loc (.reg .h)) s

/-- SUB A,L (R193). -/
def execSub_A_L (s : State) : Result := accumulate .sub (.loc (.reg .l)) s

/-- SUB A,(HL) (R193). -/
def execSub_A_atHL (s : State) : Result := accumulate .sub (.loc .atHL) s

/-- SUB A,A (R193). -/
def execSub_A_A (s : State) : Result := accumulate .sub (.loc (.reg .a)) s

/-- SBC A,B (R194). -/
def execSbc_A_B (s : State) : Result := accumulate .sbc (.loc (.reg .b)) s

/-- SBC A,C (R194). -/
def execSbc_A_C (s : State) : Result := accumulate .sbc (.loc (.reg .c)) s

/-- SBC A,D (R194). -/
def execSbc_A_D (s : State) : Result := accumulate .sbc (.loc (.reg .d)) s

/-- SBC A,E (R194). -/
def execSbc_A_E (s : State) : Result := accumulate .sbc (.loc (.reg .e)) s

/-- SBC A,H (R194). -/
def execSbc_A_H (s : State) : Result := accumulate .sbc (.loc (.reg .h)) s

/-- SBC A,L (R194). -/
def execSbc_A_L (s : State) : Result := accumulate .sbc (.loc (.reg .l)) s

/-- SBC A,(HL) (R194). -/
def execSbc_A_atHL (s : State) : Result := accumulate .sbc (.loc .atHL) s

/-- SBC A,A (R194). -/
def execSbc_A_A (s : State) : Result := accumulate .sbc (.loc (.reg .a)) s

/-- AND A,B (R195). -/
def execAnd_A_B (s : State) : Result := accumulate .and (.loc (.reg .b)) s

/-- AND A,C (R195). -/
def execAnd_A_C (s : State) : Result := accumulate .and (.loc (.reg .c)) s

/-- AND A,D (R195). -/
def execAnd_A_D (s : State) : Result := accumulate .and (.loc (.reg .d)) s

/-- AND A,E (R195). -/
def execAnd_A_E (s : State) : Result := accumulate .and (.loc (.reg .e)) s

/-- AND A,H (R195). -/
def execAnd_A_H (s : State) : Result := accumulate .and (.loc (.reg .h)) s

/-- AND A,L (R195). -/
def execAnd_A_L (s : State) : Result := accumulate .and (.loc (.reg .l)) s

/-- AND A,(HL) (R195). -/
def execAnd_A_atHL (s : State) : Result := accumulate .and (.loc .atHL) s

/-- AND A,A (R195). -/
def execAnd_A_A (s : State) : Result := accumulate .and (.loc (.reg .a)) s

/-- XOR A,B (R196). -/
def execXor_A_B (s : State) : Result := accumulate .xor (.loc (.reg .b)) s

/-- XOR A,C (R196). -/
def execXor_A_C (s : State) : Result := accumulate .xor (.loc (.reg .c)) s

/-- XOR A,D (R196). -/
def execXor_A_D (s : State) : Result := accumulate .xor (.loc (.reg .d)) s

/-- XOR A,E (R196). -/
def execXor_A_E (s : State) : Result := accumulate .xor (.loc (.reg .e)) s

/-- XOR A,H (R196). -/
def execXor_A_H (s : State) : Result := accumulate .xor (.loc (.reg .h)) s

/-- XOR A,L (R196). -/
def execXor_A_L (s : State) : Result := accumulate .xor (.loc (.reg .l)) s

/-- XOR A,(HL) (R196). -/
def execXor_A_atHL (s : State) : Result := accumulate .xor (.loc .atHL) s

/-- XOR A,A (R196). -/
def execXor_A_A (s : State) : Result := accumulate .xor (.loc (.reg .a)) s

/-- OR A,B (R197). -/
def execOr_A_B (s : State) : Result := accumulate .or (.loc (.reg .b)) s

/-- OR A,C (R197). -/
def execOr_A_C (s : State) : Result := accumulate .or (.loc (.reg .c)) s

/-- OR A,D (R197). -/
def execOr_A_D (s : State) : Result := accumulate .or (.loc (.reg .d)) s

/-- OR A,E (R197). -/
def execOr_A_E (s : State) : Result := accumulate .or (.loc (.reg .e)) s

/-- OR A,H (R197). -/
def execOr_A_H (s : State) : Result := accumulate .or (.loc (.reg .h)) s

/-- OR A,L (R197). -/
def execOr_A_L (s : State) : Result := accumulate .or (.loc (.reg .l)) s

/-- OR A,(HL) (R197). -/
def execOr_A_atHL (s : State) : Result := accumulate .or (.loc .atHL) s

/-- OR A,A (R197). -/
def execOr_A_A (s : State) : Result := accumulate .or (.loc (.reg .a)) s

/-- CP A,B (R198). -/
def execCp_A_B (s : State) : Result := compareA (.loc (.reg .b)) s

/-- CP A,C (R198). -/
def execCp_A_C (s : State) : Result := compareA (.loc (.reg .c)) s

/-- CP A,D (R198). -/
def execCp_A_D (s : State) : Result := compareA (.loc (.reg .d)) s

/-- CP A,E (R198). -/
def execCp_A_E (s : State) : Result := compareA (.loc (.reg .e)) s

/-- CP A,H (R198). -/
def execCp_A_H (s : State) : Result := compareA (.loc (.reg .h)) s

/-- CP A,L (R198). -/
def execCp_A_L (s : State) : Result := compareA (.loc (.reg .l)) s

/-- CP A,(HL) (R198). -/
def execCp_A_atHL (s : State) : Result := compareA (.loc .atHL) s

/-- CP A,A (R198). -/
def execCp_A_A (s : State) : Result := compareA (.loc (.reg .a)) s

/-- ADD A,d8 (R191). -/
def execAdd_A_d8 (d8 : Byte) (s : State) : Result := accumulate .add (.imm d8) s

/-- ADC A,d8 (R192). -/
def execAdc_A_d8 (d8 : Byte) (s : State) : Result := accumulate .adc (.imm d8) s

/-- SUB A,d8 (R193). -/
def execSub_A_d8 (d8 : Byte) (s : State) : Result := accumulate .sub (.imm d8) s

/-- SBC A,d8 (R194). -/
def execSbc_A_d8 (d8 : Byte) (s : State) : Result := accumulate .sbc (.imm d8) s

/-- AND A,d8 (R195). -/
def execAnd_A_d8 (d8 : Byte) (s : State) : Result := accumulate .and (.imm d8) s

/-- XOR A,d8 (R196). -/
def execXor_A_d8 (d8 : Byte) (s : State) : Result := accumulate .xor (.imm d8) s

/-- OR A,d8 (R197). -/
def execOr_A_d8 (d8 : Byte) (s : State) : Result := accumulate .or (.imm d8) s

/-- CP A,d8 (R198). -/
def execCp_A_d8 (d8 : Byte) (s : State) : Result := compareA (.imm d8) s

end Sys2Proof.Machine
end

