-- ==== Sys2Proof/Machine/Bit.lean ====
section
/-! DEFINITION. Bit test, reset and set (45_rotate_shift_bit.md R243 to R245), sequential. -/

namespace Sys2Proof.Machine

/-- `BIT n,loc` (R243): nothing is written back. -/
def testBit (n : BitVec 3) (l : Loc) (s : State) : Result :=
  .next (((s.afterReadLoc l).setFlags (bitFlags n (s.readLoc l))).advance 2 (costOf (.bit n l)))

/-- `RES n,loc` (R244). -/
def resetBit (n : BitVec 3) (l : Loc) (s : State) : Result :=
  .next (((s.afterReadLoc l).writeLoc l (s.readLoc l &&& ~~~(bitMask n))).advance 2 (costOf (.res n l)))

/-- `SET n,loc` (R245). -/
def setBit (n : BitVec 3) (l : Loc) (s : State) : Result :=
  .next (((s.afterReadLoc l).writeLoc l (s.readLoc l ||| bitMask n)).advance 2 (costOf (.set n l)))

/-- BIT 0,B (R243). -/
def execBit_0_B (s : State) : Result := testBit 0#3 (.reg .b) s

/-- BIT 0,C (R243). -/
def execBit_0_C (s : State) : Result := testBit 0#3 (.reg .c) s

/-- BIT 0,D (R243). -/
def execBit_0_D (s : State) : Result := testBit 0#3 (.reg .d) s

/-- BIT 0,E (R243). -/
def execBit_0_E (s : State) : Result := testBit 0#3 (.reg .e) s

/-- BIT 0,H (R243). -/
def execBit_0_H (s : State) : Result := testBit 0#3 (.reg .h) s

/-- BIT 0,L (R243). -/
def execBit_0_L (s : State) : Result := testBit 0#3 (.reg .l) s

/-- BIT 0,(HL) (R243). -/
def execBit_0_atHL (s : State) : Result := testBit 0#3 .atHL s

/-- BIT 0,A (R243). -/
def execBit_0_A (s : State) : Result := testBit 0#3 (.reg .a) s

/-- BIT 1,B (R243). -/
def execBit_1_B (s : State) : Result := testBit 1#3 (.reg .b) s

/-- BIT 1,C (R243). -/
def execBit_1_C (s : State) : Result := testBit 1#3 (.reg .c) s

/-- BIT 1,D (R243). -/
def execBit_1_D (s : State) : Result := testBit 1#3 (.reg .d) s

/-- BIT 1,E (R243). -/
def execBit_1_E (s : State) : Result := testBit 1#3 (.reg .e) s

/-- BIT 1,H (R243). -/
def execBit_1_H (s : State) : Result := testBit 1#3 (.reg .h) s

/-- BIT 1,L (R243). -/
def execBit_1_L (s : State) : Result := testBit 1#3 (.reg .l) s

/-- BIT 1,(HL) (R243). -/
def execBit_1_atHL (s : State) : Result := testBit 1#3 .atHL s

/-- BIT 1,A (R243). -/
def execBit_1_A (s : State) : Result := testBit 1#3 (.reg .a) s

/-- BIT 2,B (R243). -/
def execBit_2_B (s : State) : Result := testBit 2#3 (.reg .b) s

/-- BIT 2,C (R243). -/
def execBit_2_C (s : State) : Result := testBit 2#3 (.reg .c) s

/-- BIT 2,D (R243). -/
def execBit_2_D (s : State) : Result := testBit 2#3 (.reg .d) s

/-- BIT 2,E (R243). -/
def execBit_2_E (s : State) : Result := testBit 2#3 (.reg .e) s

/-- BIT 2,H (R243). -/
def execBit_2_H (s : State) : Result := testBit 2#3 (.reg .h) s

/-- BIT 2,L (R243). -/
def execBit_2_L (s : State) : Result := testBit 2#3 (.reg .l) s

/-- BIT 2,(HL) (R243). -/
def execBit_2_atHL (s : State) : Result := testBit 2#3 .atHL s

/-- BIT 2,A (R243). -/
def execBit_2_A (s : State) : Result := testBit 2#3 (.reg .a) s

/-- BIT 3,B (R243). -/
def execBit_3_B (s : State) : Result := testBit 3#3 (.reg .b) s

/-- BIT 3,C (R243). -/
def execBit_3_C (s : State) : Result := testBit 3#3 (.reg .c) s

/-- BIT 3,D (R243). -/
def execBit_3_D (s : State) : Result := testBit 3#3 (.reg .d) s

/-- BIT 3,E (R243). -/
def execBit_3_E (s : State) : Result := testBit 3#3 (.reg .e) s

/-- BIT 3,H (R243). -/
def execBit_3_H (s : State) : Result := testBit 3#3 (.reg .h) s

/-- BIT 3,L (R243). -/
def execBit_3_L (s : State) : Result := testBit 3#3 (.reg .l) s

/-- BIT 3,(HL) (R243). -/
def execBit_3_atHL (s : State) : Result := testBit 3#3 .atHL s

/-- BIT 3,A (R243). -/
def execBit_3_A (s : State) : Result := testBit 3#3 (.reg .a) s

/-- BIT 4,B (R243). -/
def execBit_4_B (s : State) : Result := testBit 4#3 (.reg .b) s

/-- BIT 4,C (R243). -/
def execBit_4_C (s : State) : Result := testBit 4#3 (.reg .c) s

/-- BIT 4,D (R243). -/
def execBit_4_D (s : State) : Result := testBit 4#3 (.reg .d) s

/-- BIT 4,E (R243). -/
def execBit_4_E (s : State) : Result := testBit 4#3 (.reg .e) s

/-- BIT 4,H (R243). -/
def execBit_4_H (s : State) : Result := testBit 4#3 (.reg .h) s

/-- BIT 4,L (R243). -/
def execBit_4_L (s : State) : Result := testBit 4#3 (.reg .l) s

/-- BIT 4,(HL) (R243). -/
def execBit_4_atHL (s : State) : Result := testBit 4#3 .atHL s

/-- BIT 4,A (R243). -/
def execBit_4_A (s : State) : Result := testBit 4#3 (.reg .a) s

/-- BIT 5,B (R243). -/
def execBit_5_B (s : State) : Result := testBit 5#3 (.reg .b) s

/-- BIT 5,C (R243). -/
def execBit_5_C (s : State) : Result := testBit 5#3 (.reg .c) s

/-- BIT 5,D (R243). -/
def execBit_5_D (s : State) : Result := testBit 5#3 (.reg .d) s

/-- BIT 5,E (R243). -/
def execBit_5_E (s : State) : Result := testBit 5#3 (.reg .e) s

/-- BIT 5,H (R243). -/
def execBit_5_H (s : State) : Result := testBit 5#3 (.reg .h) s

/-- BIT 5,L (R243). -/
def execBit_5_L (s : State) : Result := testBit 5#3 (.reg .l) s

/-- BIT 5,(HL) (R243). -/
def execBit_5_atHL (s : State) : Result := testBit 5#3 .atHL s

/-- BIT 5,A (R243). -/
def execBit_5_A (s : State) : Result := testBit 5#3 (.reg .a) s

/-- BIT 6,B (R243). -/
def execBit_6_B (s : State) : Result := testBit 6#3 (.reg .b) s

/-- BIT 6,C (R243). -/
def execBit_6_C (s : State) : Result := testBit 6#3 (.reg .c) s

/-- BIT 6,D (R243). -/
def execBit_6_D (s : State) : Result := testBit 6#3 (.reg .d) s

/-- BIT 6,E (R243). -/
def execBit_6_E (s : State) : Result := testBit 6#3 (.reg .e) s

/-- BIT 6,H (R243). -/
def execBit_6_H (s : State) : Result := testBit 6#3 (.reg .h) s

/-- BIT 6,L (R243). -/
def execBit_6_L (s : State) : Result := testBit 6#3 (.reg .l) s

/-- BIT 6,(HL) (R243). -/
def execBit_6_atHL (s : State) : Result := testBit 6#3 .atHL s

/-- BIT 6,A (R243). -/
def execBit_6_A (s : State) : Result := testBit 6#3 (.reg .a) s

/-- BIT 7,B (R243). -/
def execBit_7_B (s : State) : Result := testBit 7#3 (.reg .b) s

/-- BIT 7,C (R243). -/
def execBit_7_C (s : State) : Result := testBit 7#3 (.reg .c) s

/-- BIT 7,D (R243). -/
def execBit_7_D (s : State) : Result := testBit 7#3 (.reg .d) s

/-- BIT 7,E (R243). -/
def execBit_7_E (s : State) : Result := testBit 7#3 (.reg .e) s

/-- BIT 7,H (R243). -/
def execBit_7_H (s : State) : Result := testBit 7#3 (.reg .h) s

/-- BIT 7,L (R243). -/
def execBit_7_L (s : State) : Result := testBit 7#3 (.reg .l) s

/-- BIT 7,(HL) (R243). -/
def execBit_7_atHL (s : State) : Result := testBit 7#3 .atHL s

/-- BIT 7,A (R243). -/
def execBit_7_A (s : State) : Result := testBit 7#3 (.reg .a) s

/-- RES 0,B (R244). -/
def execRes_0_B (s : State) : Result := resetBit 0#3 (.reg .b) s

/-- RES 0,C (R244). -/
def execRes_0_C (s : State) : Result := resetBit 0#3 (.reg .c) s

/-- RES 0,D (R244). -/
def execRes_0_D (s : State) : Result := resetBit 0#3 (.reg .d) s

/-- RES 0,E (R244). -/
def execRes_0_E (s : State) : Result := resetBit 0#3 (.reg .e) s

/-- RES 0,H (R244). -/
def execRes_0_H (s : State) : Result := resetBit 0#3 (.reg .h) s

/-- RES 0,L (R244). -/
def execRes_0_L (s : State) : Result := resetBit 0#3 (.reg .l) s

/-- RES 0,(HL) (R244). -/
def execRes_0_atHL (s : State) : Result := resetBit 0#3 .atHL s

/-- RES 0,A (R244). -/
def execRes_0_A (s : State) : Result := resetBit 0#3 (.reg .a) s

/-- RES 1,B (R244). -/
def execRes_1_B (s : State) : Result := resetBit 1#3 (.reg .b) s

/-- RES 1,C (R244). -/
def execRes_1_C (s : State) : Result := resetBit 1#3 (.reg .c) s

/-- RES 1,D (R244). -/
def execRes_1_D (s : State) : Result := resetBit 1#3 (.reg .d) s

/-- RES 1,E (R244). -/
def execRes_1_E (s : State) : Result := resetBit 1#3 (.reg .e) s

/-- RES 1,H (R244). -/
def execRes_1_H (s : State) : Result := resetBit 1#3 (.reg .h) s

/-- RES 1,L (R244). -/
def execRes_1_L (s : State) : Result := resetBit 1#3 (.reg .l) s

/-- RES 1,(HL) (R244). -/
def execRes_1_atHL (s : State) : Result := resetBit 1#3 .atHL s

/-- RES 1,A (R244). -/
def execRes_1_A (s : State) : Result := resetBit 1#3 (.reg .a) s

/-- RES 2,B (R244). -/
def execRes_2_B (s : State) : Result := resetBit 2#3 (.reg .b) s

/-- RES 2,C (R244). -/
def execRes_2_C (s : State) : Result := resetBit 2#3 (.reg .c) s

/-- RES 2,D (R244). -/
def execRes_2_D (s : State) : Result := resetBit 2#3 (.reg .d) s

/-- RES 2,E (R244). -/
def execRes_2_E (s : State) : Result := resetBit 2#3 (.reg .e) s

/-- RES 2,H (R244). -/
def execRes_2_H (s : State) : Result := resetBit 2#3 (.reg .h) s

/-- RES 2,L (R244). -/
def execRes_2_L (s : State) : Result := resetBit 2#3 (.reg .l) s

/-- RES 2,(HL) (R244). -/
def execRes_2_atHL (s : State) : Result := resetBit 2#3 .atHL s

/-- RES 2,A (R244). -/
def execRes_2_A (s : State) : Result := resetBit 2#3 (.reg .a) s

/-- RES 3,B (R244). -/
def execRes_3_B (s : State) : Result := resetBit 3#3 (.reg .b) s

/-- RES 3,C (R244). -/
def execRes_3_C (s : State) : Result := resetBit 3#3 (.reg .c) s

/-- RES 3,D (R244). -/
def execRes_3_D (s : State) : Result := resetBit 3#3 (.reg .d) s

/-- RES 3,E (R244). -/
def execRes_3_E (s : State) : Result := resetBit 3#3 (.reg .e) s

/-- RES 3,H (R244). -/
def execRes_3_H (s : State) : Result := resetBit 3#3 (.reg .h) s

/-- RES 3,L (R244). -/
def execRes_3_L (s : State) : Result := resetBit 3#3 (.reg .l) s

/-- RES 3,(HL) (R244). -/
def execRes_3_atHL (s : State) : Result := resetBit 3#3 .atHL s

/-- RES 3,A (R244). -/
def execRes_3_A (s : State) : Result := resetBit 3#3 (.reg .a) s

/-- RES 4,B (R244). -/
def execRes_4_B (s : State) : Result := resetBit 4#3 (.reg .b) s

/-- RES 4,C (R244). -/
def execRes_4_C (s : State) : Result := resetBit 4#3 (.reg .c) s

/-- RES 4,D (R244). -/
def execRes_4_D (s : State) : Result := resetBit 4#3 (.reg .d) s

/-- RES 4,E (R244). -/
def execRes_4_E (s : State) : Result := resetBit 4#3 (.reg .e) s

/-- RES 4,H (R244). -/
def execRes_4_H (s : State) : Result := resetBit 4#3 (.reg .h) s

/-- RES 4,L (R244). -/
def execRes_4_L (s : State) : Result := resetBit 4#3 (.reg .l) s

/-- RES 4,(HL) (R244). -/
def execRes_4_atHL (s : State) : Result := resetBit 4#3 .atHL s

/-- RES 4,A (R244). -/
def execRes_4_A (s : State) : Result := resetBit 4#3 (.reg .a) s

/-- RES 5,B (R244). -/
def execRes_5_B (s : State) : Result := resetBit 5#3 (.reg .b) s

/-- RES 5,C (R244). -/
def execRes_5_C (s : State) : Result := resetBit 5#3 (.reg .c) s

/-- RES 5,D (R244). -/
def execRes_5_D (s : State) : Result := resetBit 5#3 (.reg .d) s

/-- RES 5,E (R244). -/
def execRes_5_E (s : State) : Result := resetBit 5#3 (.reg .e) s

/-- RES 5,H (R244). -/
def execRes_5_H (s : State) : Result := resetBit 5#3 (.reg .h) s

/-- RES 5,L (R244). -/
def execRes_5_L (s : State) : Result := resetBit 5#3 (.reg .l) s

/-- RES 5,(HL) (R244). -/
def execRes_5_atHL (s : State) : Result := resetBit 5#3 .atHL s

/-- RES 5,A (R244). -/
def execRes_5_A (s : State) : Result := resetBit 5#3 (.reg .a) s

/-- RES 6,B (R244). -/
def execRes_6_B (s : State) : Result := resetBit 6#3 (.reg .b) s

/-- RES 6,C (R244). -/
def execRes_6_C (s : State) : Result := resetBit 6#3 (.reg .c) s

/-- RES 6,D (R244). -/
def execRes_6_D (s : State) : Result := resetBit 6#3 (.reg .d) s

/-- RES 6,E (R244). -/
def execRes_6_E (s : State) : Result := resetBit 6#3 (.reg .e) s

/-- RES 6,H (R244). -/
def execRes_6_H (s : State) : Result := resetBit 6#3 (.reg .h) s

/-- RES 6,L (R244). -/
def execRes_6_L (s : State) : Result := resetBit 6#3 (.reg .l) s

/-- RES 6,(HL) (R244). -/
def execRes_6_atHL (s : State) : Result := resetBit 6#3 .atHL s

/-- RES 6,A (R244). -/
def execRes_6_A (s : State) : Result := resetBit 6#3 (.reg .a) s

/-- RES 7,B (R244). -/
def execRes_7_B (s : State) : Result := resetBit 7#3 (.reg .b) s

/-- RES 7,C (R244). -/
def execRes_7_C (s : State) : Result := resetBit 7#3 (.reg .c) s

/-- RES 7,D (R244). -/
def execRes_7_D (s : State) : Result := resetBit 7#3 (.reg .d) s

/-- RES 7,E (R244). -/
def execRes_7_E (s : State) : Result := resetBit 7#3 (.reg .e) s

/-- RES 7,H (R244). -/
def execRes_7_H (s : State) : Result := resetBit 7#3 (.reg .h) s

/-- RES 7,L (R244). -/
def execRes_7_L (s : State) : Result := resetBit 7#3 (.reg .l) s

/-- RES 7,(HL) (R244). -/
def execRes_7_atHL (s : State) : Result := resetBit 7#3 .atHL s

/-- RES 7,A (R244). -/
def execRes_7_A (s : State) : Result := resetBit 7#3 (.reg .a) s

/-- SET 0,B (R245). -/
def execSet_0_B (s : State) : Result := setBit 0#3 (.reg .b) s

/-- SET 0,C (R245). -/
def execSet_0_C (s : State) : Result := setBit 0#3 (.reg .c) s

/-- SET 0,D (R245). -/
def execSet_0_D (s : State) : Result := setBit 0#3 (.reg .d) s

/-- SET 0,E (R245). -/
def execSet_0_E (s : State) : Result := setBit 0#3 (.reg .e) s

/-- SET 0,H (R245). -/
def execSet_0_H (s : State) : Result := setBit 0#3 (.reg .h) s

/-- SET 0,L (R245). -/
def execSet_0_L (s : State) : Result := setBit 0#3 (.reg .l) s

/-- SET 0,(HL) (R245). -/
def execSet_0_atHL (s : State) : Result := setBit 0#3 .atHL s

/-- SET 0,A (R245). -/
def execSet_0_A (s : State) : Result := setBit 0#3 (.reg .a) s

/-- SET 1,B (R245). -/
def execSet_1_B (s : State) : Result := setBit 1#3 (.reg .b) s

/-- SET 1,C (R245). -/
def execSet_1_C (s : State) : Result := setBit 1#3 (.reg .c) s

/-- SET 1,D (R245). -/
def execSet_1_D (s : State) : Result := setBit 1#3 (.reg .d) s

/-- SET 1,E (R245). -/
def execSet_1_E (s : State) : Result := setBit 1#3 (.reg .e) s

/-- SET 1,H (R245). -/
def execSet_1_H (s : State) : Result := setBit 1#3 (.reg .h) s

/-- SET 1,L (R245). -/
def execSet_1_L (s : State) : Result := setBit 1#3 (.reg .l) s

/-- SET 1,(HL) (R245). -/
def execSet_1_atHL (s : State) : Result := setBit 1#3 .atHL s

/-- SET 1,A (R245). -/
def execSet_1_A (s : State) : Result := setBit 1#3 (.reg .a) s

/-- SET 2,B (R245). -/
def execSet_2_B (s : State) : Result := setBit 2#3 (.reg .b) s

/-- SET 2,C (R245). -/
def execSet_2_C (s : State) : Result := setBit 2#3 (.reg .c) s

/-- SET 2,D (R245). -/
def execSet_2_D (s : State) : Result := setBit 2#3 (.reg .d) s

/-- SET 2,E (R245). -/
def execSet_2_E (s : State) : Result := setBit 2#3 (.reg .e) s

/-- SET 2,H (R245). -/
def execSet_2_H (s : State) : Result := setBit 2#3 (.reg .h) s

/-- SET 2,L (R245). -/
def execSet_2_L (s : State) : Result := setBit 2#3 (.reg .l) s

/-- SET 2,(HL) (R245). -/
def execSet_2_atHL (s : State) : Result := setBit 2#3 .atHL s

/-- SET 2,A (R245). -/
def execSet_2_A (s : State) : Result := setBit 2#3 (.reg .a) s

/-- SET 3,B (R245). -/
def execSet_3_B (s : State) : Result := setBit 3#3 (.reg .b) s

/-- SET 3,C (R245). -/
def execSet_3_C (s : State) : Result := setBit 3#3 (.reg .c) s

/-- SET 3,D (R245). -/
def execSet_3_D (s : State) : Result := setBit 3#3 (.reg .d) s

/-- SET 3,E (R245). -/
def execSet_3_E (s : State) : Result := setBit 3#3 (.reg .e) s

/-- SET 3,H (R245). -/
def execSet_3_H (s : State) : Result := setBit 3#3 (.reg .h) s

/-- SET 3,L (R245). -/
def execSet_3_L (s : State) : Result := setBit 3#3 (.reg .l) s

/-- SET 3,(HL) (R245). -/
def execSet_3_atHL (s : State) : Result := setBit 3#3 .atHL s

/-- SET 3,A (R245). -/
def execSet_3_A (s : State) : Result := setBit 3#3 (.reg .a) s

/-- SET 4,B (R245). -/
def execSet_4_B (s : State) : Result := setBit 4#3 (.reg .b) s

/-- SET 4,C (R245). -/
def execSet_4_C (s : State) : Result := setBit 4#3 (.reg .c) s

/-- SET 4,D (R245). -/
def execSet_4_D (s : State) : Result := setBit 4#3 (.reg .d) s

/-- SET 4,E (R245). -/
def execSet_4_E (s : State) : Result := setBit 4#3 (.reg .e) s

/-- SET 4,H (R245). -/
def execSet_4_H (s : State) : Result := setBit 4#3 (.reg .h) s

/-- SET 4,L (R245). -/
def execSet_4_L (s : State) : Result := setBit 4#3 (.reg .l) s

/-- SET 4,(HL) (R245). -/
def execSet_4_atHL (s : State) : Result := setBit 4#3 .atHL s

/-- SET 4,A (R245). -/
def execSet_4_A (s : State) : Result := setBit 4#3 (.reg .a) s

/-- SET 5,B (R245). -/
def execSet_5_B (s : State) : Result := setBit 5#3 (.reg .b) s

/-- SET 5,C (R245). -/
def execSet_5_C (s : State) : Result := setBit 5#3 (.reg .c) s

/-- SET 5,D (R245). -/
def execSet_5_D (s : State) : Result := setBit 5#3 (.reg .d) s

/-- SET 5,E (R245). -/
def execSet_5_E (s : State) : Result := setBit 5#3 (.reg .e) s

/-- SET 5,H (R245). -/
def execSet_5_H (s : State) : Result := setBit 5#3 (.reg .h) s

/-- SET 5,L (R245). -/
def execSet_5_L (s : State) : Result := setBit 5#3 (.reg .l) s

/-- SET 5,(HL) (R245). -/
def execSet_5_atHL (s : State) : Result := setBit 5#3 .atHL s

/-- SET 5,A (R245). -/
def execSet_5_A (s : State) : Result := setBit 5#3 (.reg .a) s

/-- SET 6,B (R245). -/
def execSet_6_B (s : State) : Result := setBit 6#3 (.reg .b) s

/-- SET 6,C (R245). -/
def execSet_6_C (s : State) : Result := setBit 6#3 (.reg .c) s

/-- SET 6,D (R245). -/
def execSet_6_D (s : State) : Result := setBit 6#3 (.reg .d) s

/-- SET 6,E (R245). -/
def execSet_6_E (s : State) : Result := setBit 6#3 (.reg .e) s

/-- SET 6,H (R245). -/
def execSet_6_H (s : State) : Result := setBit 6#3 (.reg .h) s

/-- SET 6,L (R245). -/
def execSet_6_L (s : State) : Result := setBit 6#3 (.reg .l) s

/-- SET 6,(HL) (R245). -/
def execSet_6_atHL (s : State) : Result := setBit 6#3 .atHL s

/-- SET 6,A (R245). -/
def execSet_6_A (s : State) : Result := setBit 6#3 (.reg .a) s

/-- SET 7,B (R245). -/
def execSet_7_B (s : State) : Result := setBit 7#3 (.reg .b) s

/-- SET 7,C (R245). -/
def execSet_7_C (s : State) : Result := setBit 7#3 (.reg .c) s

/-- SET 7,D (R245). -/
def execSet_7_D (s : State) : Result := setBit 7#3 (.reg .d) s

/-- SET 7,E (R245). -/
def execSet_7_E (s : State) : Result := setBit 7#3 (.reg .e) s

/-- SET 7,H (R245). -/
def execSet_7_H (s : State) : Result := setBit 7#3 (.reg .h) s

/-- SET 7,L (R245). -/
def execSet_7_L (s : State) : Result := setBit 7#3 (.reg .l) s

/-- SET 7,(HL) (R245). -/
def execSet_7_atHL (s : State) : Result := setBit 7#3 .atHL s

/-- SET 7,A (R245). -/
def execSet_7_A (s : State) : Result := setBit 7#3 (.reg .a) s

end Sys2Proof.Machine
end

