-- ==== Sys2Proof/Machine/Control.lean ====
section
/-! DEFINITION. Control transfer (46_control.md R260 to R271): PC is assigned once, by the transfer or by the sequential
advance of a condition that is false (R24). No flag is written. -/

namespace Sys2Proof.Machine

/-- `JP a16` and `JP HL` (R261, R263). -/
def jumpTo (target : Word) (cost : Nat) (s : State) : Result :=
  .next (s.jump target cost)

/-- `JP cc,a16` (R262). -/
def jumpIf (cc : Cond) (a16 : Word) (s : State) : Result :=
  if s.cond cc then jumpTo a16 (costOf (.jpIf cc a16)) s else .next (s.advance 3 (costNotTaken (.jpIf cc a16)))

/-- `JR e8` (R264): relative to `next`. -/
def jumpRelative (e8 : Byte) (cost : Nat) (s : State) : Result :=
  .next (s.jump (s.next 2 + sext16 e8) cost)

/-- `JR cc,e8` (R265). -/
def jumpRelativeIf (cc : Cond) (e8 : Byte) (s : State) : Result :=
  if s.cond cc then jumpRelative e8 (costOf (.jrIf cc e8)) s else .next (s.advance 2 (costNotTaken (.jrIf cc e8)))

/-- `CALL a16` (R266) and the transfer of `RST` (R271): push `next`, then jump. -/
def callTo (target : Word) (len cost : Nat) (s : State) : Result :=
  .next ((s.push (s.next len)).jump target cost)

/-- `CALL cc,a16` (R267). -/
def callIf (cc : Cond) (a16 : Word) (s : State) : Result :=
  if s.cond cc then callTo a16 3 (costOf (.callIf cc a16)) s else .next (s.advance 3 (costNotTaken (.callIf cc a16)))

/-- `RET` (R268). -/
def returnTo (cost : Nat) (s : State) : Result :=
  .next (s.dropWord.jump (s.readWord s.sp) cost)

/-- `RET cc` (R269). -/
def returnIf (cc : Cond) (s : State) : Result :=
  if s.cond cc then returnTo (costOf (.retIf cc)) s else .next (s.advance 1 (costNotTaken (.retIf cc)))

/-- `RETI` (R270). -/
def returnEnabling (s : State) : Result :=
  .next (returnFromInterrupt (costOf .reti) s)

/-- `RST t` (R271). -/
def restart (t : BitVec 3) (s : State) : Result :=
  callTo (restartTarget t) 1 (costOf (.rst t)) s

/-- JR e8 (R264). -/
def execJr_e8 (e8 : Byte) (s : State) : Result := jumpRelative e8 (costOf (.jr e8)) s

/-- JR NZ,e8 (R265). -/
def execJr_NZ_e8 (e8 : Byte) (s : State) : Result := jumpRelativeIf .nz e8 s

/-- JR Z,e8 (R265). -/
def execJr_Z_e8 (e8 : Byte) (s : State) : Result := jumpRelativeIf .z e8 s

/-- JR NC,e8 (R265). -/
def execJr_NC_e8 (e8 : Byte) (s : State) : Result := jumpRelativeIf .nc e8 s

/-- JR C,e8 (R265). -/
def execJr_C_e8 (e8 : Byte) (s : State) : Result := jumpRelativeIf .c e8 s

/-- RET NZ (R269). -/
def execRet_NZ (s : State) : Result := returnIf .nz s

/-- JP NZ,a16 (R262). -/
def execJp_NZ_a16 (a16 : Word) (s : State) : Result := jumpIf .nz a16 s

/-- JP a16 (R261). -/
def execJp_a16 (a16 : Word) (s : State) : Result := jumpTo a16 (costOf (.jp a16)) s

/-- CALL NZ,a16 (R267). -/
def execCall_NZ_a16 (a16 : Word) (s : State) : Result := callIf .nz a16 s

/-- RST 00h (R271). -/
def execRst_00h (s : State) : Result := restart 0#3 s

/-- RET Z (R269). -/
def execRet_Z (s : State) : Result := returnIf .z s

/-- RET (R268). -/
def execRet (s : State) : Result := returnTo (costOf .ret) s

/-- JP Z,a16 (R262). -/
def execJp_Z_a16 (a16 : Word) (s : State) : Result := jumpIf .z a16 s

/-- CALL Z,a16 (R267). -/
def execCall_Z_a16 (a16 : Word) (s : State) : Result := callIf .z a16 s

/-- CALL a16 (R266). -/
def execCall_a16 (a16 : Word) (s : State) : Result := callTo a16 3 (costOf (.call a16)) s

/-- RST 08h (R271). -/
def execRst_08h (s : State) : Result := restart 1#3 s

/-- RET NC (R269). -/
def execRet_NC (s : State) : Result := returnIf .nc s

/-- JP NC,a16 (R262). -/
def execJp_NC_a16 (a16 : Word) (s : State) : Result := jumpIf .nc a16 s

/-- CALL NC,a16 (R267). -/
def execCall_NC_a16 (a16 : Word) (s : State) : Result := callIf .nc a16 s

/-- RST 10h (R271). -/
def execRst_10h (s : State) : Result := restart 2#3 s

/-- RET C (R269). -/
def execRet_C (s : State) : Result := returnIf .c s

/-- RETI (R270). -/
def execReti (s : State) : Result := returnEnabling s

/-- JP C,a16 (R262). -/
def execJp_C_a16 (a16 : Word) (s : State) : Result := jumpIf .c a16 s

/-- CALL C,a16 (R267). -/
def execCall_C_a16 (a16 : Word) (s : State) : Result := callIf .c a16 s

/-- RST 18h (R271). -/
def execRst_18h (s : State) : Result := restart 3#3 s

/-- RST 20h (R271). -/
def execRst_20h (s : State) : Result := restart 4#3 s

/-- JP HL (R263). -/
def execJp_HL (s : State) : Result := jumpTo s.hl (costOf .jpHL) s

/-- RST 28h (R271). -/
def execRst_28h (s : State) : Result := restart 5#3 s

/-- RST 30h (R271). -/
def execRst_30h (s : State) : Result := restart 6#3 s

/-- RST 38h (R271). -/
def execRst_38h (s : State) : Result := restart 7#3 s

end Sys2Proof.Machine
end

