-- ==== Sys2Proof/Machine/Load16.lean ====
section
/-! DEFINITION. 16-bit loads and stack operations (42_load16_stack.md R170 to R176), sequential. -/

namespace Sys2Proof.Machine

/-- `LD rr,d16` (R170). -/
def loadPairImm (p : Pair) (d16 : Word) (s : State) : Result :=
  .next ((s.setPair p d16).advance 3 (costOf (.ldPairImm p d16)))

/-- `LD (a16),SP` (R171): low byte at `a16`, high byte at `a16 + 1`. -/
def storeSP (a16 : Word) (s : State) : Result :=
  .next ((s.writeWord a16 s.sp).advance 3 (costOf (.ldAtAbsSP a16)))

/-- `LD SP,HL` (R172). -/
def loadSPFromHL (s : State) : Result :=
  .next ((s.setPair .sp s.hl).advance 1 (costOf .ldSPHL))

/-- `LD HL,SP+e8` (R173): the one 16-bit load that writes flags. -/
def loadHLFromSPPlus (e8 : Byte) (s : State) : Result :=
  let r := addsp s.sp e8
  .next (((s.setHL r.1).setFlags r.2).advance 2 (costOf (.ldHLSPPlus e8)))

/-- `PUSH rr` (R174). -/
def pushPair (q : StackPair) (s : State) : Result :=
  .next ((s.push (s.stackPair q)).advance 1 (costOf (.push q)))

/-- `POP rr` and `POP AF` (R175, R176). -/
def popPair (q : StackPair) (s : State) : Result :=
  .next ((s.dropWord.setStackPair q (s.readWord s.sp)).advance 1 (costOf (.pop q)))

/-- LD BC,d16 (R170). -/
def execLd_BC_d16 (d16 : Word) (s : State) : Result := loadPairImm .bc d16 s

/-- LD (a16),SP (R171). -/
def execLd_ata16_SP (a16 : Word) (s : State) : Result := storeSP a16 s

/-- LD DE,d16 (R170). -/
def execLd_DE_d16 (d16 : Word) (s : State) : Result := loadPairImm .de d16 s

/-- LD HL,d16 (R170). -/
def execLd_HL_d16 (d16 : Word) (s : State) : Result := loadPairImm .hl d16 s

/-- LD SP,d16 (R170). -/
def execLd_SP_d16 (d16 : Word) (s : State) : Result := loadPairImm .sp d16 s

/-- POP BC (R175). -/
def execPop_BC (s : State) : Result := popPair .bc s

/-- PUSH BC (R174). -/
def execPush_BC (s : State) : Result := pushPair .bc s

/-- POP DE (R175). -/
def execPop_DE (s : State) : Result := popPair .de s

/-- PUSH DE (R174). -/
def execPush_DE (s : State) : Result := pushPair .de s

/-- POP HL (R175). -/
def execPop_HL (s : State) : Result := popPair .hl s

/-- PUSH HL (R174). -/
def execPush_HL (s : State) : Result := pushPair .hl s

/-- POP AF (R176). -/
def execPop_AF (s : State) : Result := popPair .af s

/-- PUSH AF (R174). -/
def execPush_AF (s : State) : Result := pushPair .af s

/-- LD HL,SP+e8 (R173). -/
def execLd_HL_SP_e8 (e8 : Byte) (s : State) : Result := loadHLFromSPPlus e8 s

/-- LD SP,HL (R172). -/
def execLd_SP_HL (s : State) : Result := loadSPFromHL s

end Sys2Proof.Machine
end

