-- ==== Sys2Proof/Machine/Load8.lean ====
section
/-! DEFINITION. 8-bit loads (41_load8.md R140 to R159): pure copies with no flag effect, sequential. -/

namespace Sys2Proof.Machine

/-- `LD r,r'` (R140). -/
def loadRegReg (dst src : Reg8) (s : State) : Result :=
  .next ((s.setReg dst (s.reg src)).advance 1 (costOf (.ldRegReg dst src)))

/-- `LD r,d8` (R141). -/
def loadRegImm (dst : Reg8) (d8 : Byte) (s : State) : Result :=
  .next ((s.setReg dst d8).advance 2 (costOf (.ldRegImm dst d8)))

/-- `LD r,(HL)` (R142): the old HL is the address. -/
def loadRegAtHL (dst : Reg8) (s : State) : Result :=
  .next (((s.afterRead s.hl).setReg dst (s.readByte s.hl)).advance 1 (costOf (.ldRegAtHL dst)))

/-- `LD (HL),r` and `LD (HL),d8` (R143, R144). -/
def storeAtHL (v : Byte) (len cost : Nat) (s : State) : Result :=
  .next ((s.writeByte s.hl v).advance len cost)

/-- A load of A from the memory byte at `addr` (R145, R146, R149, R151, R153). -/
def loadA (addr : Word) (len cost : Nat) (s : State) : Result :=
  .next (((s.afterRead addr).setReg .a (s.readByte addr)).advance len cost)

/-- A store of A to the memory byte at `addr` (R147, R148, R150, R152, R154). -/
def storeA (addr : Word) (len cost : Nat) (s : State) : Result :=
  .next ((s.writeByte addr s.a).advance len cost)

/-- `LD (HL+),A` and `LD (HL-),A` (R155, R156): HL is changed after the access. -/
def storeAMoveHL (hl' : Word) (cost : Nat) (s : State) : Result :=
  .next (((s.writeByte s.hl s.a).setHL hl').advance 1 cost)

/-- `LD A,(HL+)` and `LD A,(HL-)` (R157, R158): HL is changed after the access. -/
def loadAMoveHL (hl' : Word) (cost : Nat) (s : State) : Result :=
  .next ((((s.afterRead s.hl).setReg .a (s.readByte s.hl)).setHL hl').advance 1 cost)

/-- LD (BC),A (R147). -/
def execLd_atBC_A (s : State) : Result := storeA s.bc 1 (costOf .ldAtBCA) s

/-- LD B,d8 (R141). -/
def execLd_B_d8 (d8 : Byte) (s : State) : Result := loadRegImm .b d8 s

/-- LD A,(BC) (R145). -/
def execLd_A_atBC (s : State) : Result := loadA s.bc 1 (costOf .ldAAtBC) s

/-- LD C,d8 (R141). -/
def execLd_C_d8 (d8 : Byte) (s : State) : Result := loadRegImm .c d8 s

/-- LD (DE),A (R148). -/
def execLd_atDE_A (s : State) : Result := storeA s.de 1 (costOf .ldAtDEA) s

/-- LD D,d8 (R141). -/
def execLd_D_d8 (d8 : Byte) (s : State) : Result := loadRegImm .d d8 s

/-- LD A,(DE) (R146). -/
def execLd_A_atDE (s : State) : Result := loadA s.de 1 (costOf .ldAAtDE) s

/-- LD E,d8 (R141). -/
def execLd_E_d8 (d8 : Byte) (s : State) : Result := loadRegImm .e d8 s

/-- LD (HL+),A (R155). -/
def execLd_atHLinc_A (s : State) : Result := storeAMoveHL (s.hl + 1#16) (costOf .ldAtHLIncA) s

/-- LD H,d8 (R141). -/
def execLd_H_d8 (d8 : Byte) (s : State) : Result := loadRegImm .h d8 s

/-- LD A,(HL+) (R157). -/
def execLd_A_atHLinc (s : State) : Result := loadAMoveHL (s.hl + 1#16) (costOf .ldAAtHLInc) s

/-- LD L,d8 (R141). -/
def execLd_L_d8 (d8 : Byte) (s : State) : Result := loadRegImm .l d8 s

/-- LD (HL-),A (R156). -/
def execLd_atHLdec_A (s : State) : Result := storeAMoveHL (s.hl - 1#16) (costOf .ldAtHLDecA) s

/-- LD (HL),d8 (R144). -/
def execLd_atHL_d8 (d8 : Byte) (s : State) : Result := storeAtHL d8 2 (costOf (.ldAtHLImm d8)) s

/-- LD A,(HL-) (R158). -/
def execLd_A_atHLdec (s : State) : Result := loadAMoveHL (s.hl - 1#16) (costOf .ldAAtHLDec) s

/-- LD A,d8 (R141). -/
def execLd_A_d8 (d8 : Byte) (s : State) : Result := loadRegImm .a d8 s

/-- LD B,B (R140). -/
def execLd_B_B (s : State) : Result := loadRegReg .b .b s

/-- LD B,C (R140). -/
def execLd_B_C (s : State) : Result := loadRegReg .b .c s

/-- LD B,D (R140). -/
def execLd_B_D (s : State) : Result := loadRegReg .b .d s

/-- LD B,E (R140). -/
def execLd_B_E (s : State) : Result := loadRegReg .b .e s

/-- LD B,H (R140). -/
def execLd_B_H (s : State) : Result := loadRegReg .b .h s

/-- LD B,L (R140). -/
def execLd_B_L (s : State) : Result := loadRegReg .b .l s

/-- LD B,(HL) (R142). -/
def execLd_B_atHL (s : State) : Result := loadRegAtHL .b s

/-- LD B,A (R140). -/
def execLd_B_A (s : State) : Result := loadRegReg .b .a s

/-- LD C,B (R140). -/
def execLd_C_B (s : State) : Result := loadRegReg .c .b s

/-- LD C,C (R140). -/
def execLd_C_C (s : State) : Result := loadRegReg .c .c s

/-- LD C,D (R140). -/
def execLd_C_D (s : State) : Result := loadRegReg .c .d s

/-- LD C,E (R140). -/
def execLd_C_E (s : State) : Result := loadRegReg .c .e s

/-- LD C,H (R140). -/
def execLd_C_H (s : State) : Result := loadRegReg .c .h s

/-- LD C,L (R140). -/
def execLd_C_L (s : State) : Result := loadRegReg .c .l s

/-- LD C,(HL) (R142). -/
def execLd_C_atHL (s : State) : Result := loadRegAtHL .c s

/-- LD C,A (R140). -/
def execLd_C_A (s : State) : Result := loadRegReg .c .a s

/-- LD D,B (R140). -/
def execLd_D_B (s : State) : Result := loadRegReg .d .b s

/-- LD D,C (R140). -/
def execLd_D_C (s : State) : Result := loadRegReg .d .c s

/-- LD D,D (R140). -/
def execLd_D_D (s : State) : Result := loadRegReg .d .d s

/-- LD D,E (R140). -/
def execLd_D_E (s : State) : Result := loadRegReg .d .e s

/-- LD D,H (R140). -/
def execLd_D_H (s : State) : Result := loadRegReg .d .h s

/-- LD D,L (R140). -/
def execLd_D_L (s : State) : Result := loadRegReg .d .l s

/-- LD D,(HL) (R142). -/
def execLd_D_atHL (s : State) : Result := loadRegAtHL .d s

/-- LD D,A (R140). -/
def execLd_D_A (s : State) : Result := loadRegReg .d .a s

/-- LD E,B (R140). -/
def execLd_E_B (s : State) : Result := loadRegReg .e .b s

/-- LD E,C (R140). -/
def execLd_E_C (s : State) : Result := loadRegReg .e .c s

/-- LD E,D (R140). -/
def execLd_E_D (s : State) : Result := loadRegReg .e .d s

/-- LD E,E (R140). -/
def execLd_E_E (s : State) : Result := loadRegReg .e .e s

/-- LD E,H (R140). -/
def execLd_E_H (s : State) : Result := loadRegReg .e .h s

/-- LD E,L (R140). -/
def execLd_E_L (s : State) : Result := loadRegReg .e .l s

/-- LD E,(HL) (R142). -/
def execLd_E_atHL (s : State) : Result := loadRegAtHL .e s

/-- LD E,A (R140). -/
def execLd_E_A (s : State) : Result := loadRegReg .e .a s

/-- LD H,B (R140). -/
def execLd_H_B (s : State) : Result := loadRegReg .h .b s

/-- LD H,C (R140). -/
def execLd_H_C (s : State) : Result := loadRegReg .h .c s

/-- LD H,D (R140). -/
def execLd_H_D (s : State) : Result := loadRegReg .h .d s

/-- LD H,E (R140). -/
def execLd_H_E (s : State) : Result := loadRegReg .h .e s

/-- LD H,H (R140). -/
def execLd_H_H (s : State) : Result := loadRegReg .h .h s

/-- LD H,L (R140). -/
def execLd_H_L (s : State) : Result := loadRegReg .h .l s

/-- LD H,(HL) (R142). -/
def execLd_H_atHL (s : State) : Result := loadRegAtHL .h s

/-- LD H,A (R140). -/
def execLd_H_A (s : State) : Result := loadRegReg .h .a s

/-- LD L,B (R140). -/
def execLd_L_B (s : State) : Result := loadRegReg .l .b s

/-- LD L,C (R140). -/
def execLd_L_C (s : State) : Result := loadRegReg .l .c s

/-- LD L,D (R140). -/
def execLd_L_D (s : State) : Result := loadRegReg .l .d s

/-- LD L,E (R140). -/
def execLd_L_E (s : State) : Result := loadRegReg .l .e s

/-- LD L,H (R140). -/
def execLd_L_H (s : State) : Result := loadRegReg .l .h s

/-- LD L,L (R140). -/
def execLd_L_L (s : State) : Result := loadRegReg .l .l s

/-- LD L,(HL) (R142). -/
def execLd_L_atHL (s : State) : Result := loadRegAtHL .l s

/-- LD L,A (R140). -/
def execLd_L_A (s : State) : Result := loadRegReg .l .a s

/-- LD (HL),B (R143). -/
def execLd_atHL_B (s : State) : Result := storeAtHL (s.reg .b) 1 (costOf (.ldAtHLReg .b)) s

/-- LD (HL),C (R143). -/
def execLd_atHL_C (s : State) : Result := storeAtHL (s.reg .c) 1 (costOf (.ldAtHLReg .c)) s

/-- LD (HL),D (R143). -/
def execLd_atHL_D (s : State) : Result := storeAtHL (s.reg .d) 1 (costOf (.ldAtHLReg .d)) s

/-- LD (HL),E (R143). -/
def execLd_atHL_E (s : State) : Result := storeAtHL (s.reg .e) 1 (costOf (.ldAtHLReg .e)) s

/-- LD (HL),H (R143). -/
def execLd_atHL_H (s : State) : Result := storeAtHL (s.reg .h) 1 (costOf (.ldAtHLReg .h)) s

/-- LD (HL),L (R143). -/
def execLd_atHL_L (s : State) : Result := storeAtHL (s.reg .l) 1 (costOf (.ldAtHLReg .l)) s

/-- LD (HL),A (R143). -/
def execLd_atHL_A (s : State) : Result := storeAtHL (s.reg .a) 1 (costOf (.ldAtHLReg .a)) s

/-- LD A,B (R140). -/
def execLd_A_B (s : State) : Result := loadRegReg .a .b s

/-- LD A,C (R140). -/
def execLd_A_C (s : State) : Result := loadRegReg .a .c s

/-- LD A,D (R140). -/
def execLd_A_D (s : State) : Result := loadRegReg .a .d s

/-- LD A,E (R140). -/
def execLd_A_E (s : State) : Result := loadRegReg .a .e s

/-- LD A,H (R140). -/
def execLd_A_H (s : State) : Result := loadRegReg .a .h s

/-- LD A,L (R140). -/
def execLd_A_L (s : State) : Result := loadRegReg .a .l s

/-- LD A,(HL) (R142). -/
def execLd_A_atHL (s : State) : Result := loadRegAtHL .a s

/-- LD A,A (R140). -/
def execLd_A_A (s : State) : Result := loadRegReg .a .a s

/-- LDH (a8),A (R152). -/
def execLdh_ata8_A (a8 : Byte) (s : State) : Result := storeA (highPage a8) 2 (costOf (.ldhAtA a8)) s

/-- LD (C),A (R154). -/
def execLd_atC_A (s : State) : Result := storeA (highPage s.c) 1 (costOf .ldAtCA) s

/-- LD (a16),A (R150). -/
def execLd_ata16_A (a16 : Word) (s : State) : Result := storeA a16 3 (costOf (.ldAtAbsA a16)) s

/-- LDH A,(a8) (R151). -/
def execLdh_A_ata8 (a8 : Byte) (s : State) : Result := loadA (highPage a8) 2 (costOf (.ldhAAt a8)) s

/-- LD A,(C) (R153). -/
def execLd_A_atC (s : State) : Result := loadA (highPage s.c) 1 (costOf .ldAAtC) s

/-- LD A,(a16) (R149). -/
def execLd_A_ata16 (a16 : Word) (s : State) : Result := loadA a16 3 (costOf (.ldAAtAbs a16)) s

end Sys2Proof.Machine
end

