-- ==== Sys2Proof/Machine/Rotate.lean ====
section
/-! DEFINITION. Rotates and shifts (45_rotate_shift_bit.md R230 to R242): the accumulator forms of the primary table and
the extended forms, sequential. -/

namespace Sys2Proof.Machine

/-- The accumulator rotates (R230 to R233): the primitive's result and C; Z, N, H cleared (R127). -/
def rotateA (r : Byte × FlagUpdate) (cost : Nat) (s : State) : Result :=
  .next (((s.setReg .a r.1).setFlags (accumulatorRotateFlags r.2)).advance 1 cost)

/-- The extended rotates and shifts (R234 to R242): read the location once, write the result back to it. -/
def rotateAt (op : RotOp) (l : Loc) (s : State) : Result :=
  let r := rotate8 op (s.readLoc l) s.fC
  .next ((((s.afterReadLoc l).writeLoc l r.1).setFlags r.2).advance 2 (costOf (.rot op l)))

/-- RLCA (R230). -/
def execRlca (s : State) : Result := rotateA (rlc8 s.a) (costOf .rlca) s

/-- RRCA (R231). -/
def execRrca (s : State) : Result := rotateA (rrc8 s.a) (costOf .rrca) s

/-- RLA (R232). -/
def execRla (s : State) : Result := rotateA (rl8 s.a s.fC) (costOf .rla) s

/-- RRA (R233). -/
def execRra (s : State) : Result := rotateA (rr8 s.a s.fC) (costOf .rra) s

/-- RLC B (R235). -/
def execRlc_B (s : State) : Result := rotateAt .rlc (.reg .b) s

/-- RLC C (R235). -/
def execRlc_C (s : State) : Result := rotateAt .rlc (.reg .c) s

/-- RLC D (R235). -/
def execRlc_D (s : State) : Result := rotateAt .rlc (.reg .d) s

/-- RLC E (R235). -/
def execRlc_E (s : State) : Result := rotateAt .rlc (.reg .e) s

/-- RLC H (R235). -/
def execRlc_H (s : State) : Result := rotateAt .rlc (.reg .h) s

/-- RLC L (R235). -/
def execRlc_L (s : State) : Result := rotateAt .rlc (.reg .l) s

/-- RLC (HL) (R235). -/
def execRlc_atHL (s : State) : Result := rotateAt .rlc .atHL s

/-- RLC A (R235). -/
def execRlc_A (s : State) : Result := rotateAt .rlc (.reg .a) s

/-- RRC B (R236). -/
def execRrc_B (s : State) : Result := rotateAt .rrc (.reg .b) s

/-- RRC C (R236). -/
def execRrc_C (s : State) : Result := rotateAt .rrc (.reg .c) s

/-- RRC D (R236). -/
def execRrc_D (s : State) : Result := rotateAt .rrc (.reg .d) s

/-- RRC E (R236). -/
def execRrc_E (s : State) : Result := rotateAt .rrc (.reg .e) s

/-- RRC H (R236). -/
def execRrc_H (s : State) : Result := rotateAt .rrc (.reg .h) s

/-- RRC L (R236). -/
def execRrc_L (s : State) : Result := rotateAt .rrc (.reg .l) s

/-- RRC (HL) (R236). -/
def execRrc_atHL (s : State) : Result := rotateAt .rrc .atHL s

/-- RRC A (R236). -/
def execRrc_A (s : State) : Result := rotateAt .rrc (.reg .a) s

/-- RL B (R237). -/
def execRl_B (s : State) : Result := rotateAt .rl (.reg .b) s

/-- RL C (R237). -/
def execRl_C (s : State) : Result := rotateAt .rl (.reg .c) s

/-- RL D (R237). -/
def execRl_D (s : State) : Result := rotateAt .rl (.reg .d) s

/-- RL E (R237). -/
def execRl_E (s : State) : Result := rotateAt .rl (.reg .e) s

/-- RL H (R237). -/
def execRl_H (s : State) : Result := rotateAt .rl (.reg .h) s

/-- RL L (R237). -/
def execRl_L (s : State) : Result := rotateAt .rl (.reg .l) s

/-- RL (HL) (R237). -/
def execRl_atHL (s : State) : Result := rotateAt .rl .atHL s

/-- RL A (R237). -/
def execRl_A (s : State) : Result := rotateAt .rl (.reg .a) s

/-- RR B (R238). -/
def execRr_B (s : State) : Result := rotateAt .rr (.reg .b) s

/-- RR C (R238). -/
def execRr_C (s : State) : Result := rotateAt .rr (.reg .c) s

/-- RR D (R238). -/
def execRr_D (s : State) : Result := rotateAt .rr (.reg .d) s

/-- RR E (R238). -/
def execRr_E (s : State) : Result := rotateAt .rr (.reg .e) s

/-- RR H (R238). -/
def execRr_H (s : State) : Result := rotateAt .rr (.reg .h) s

/-- RR L (R238). -/
def execRr_L (s : State) : Result := rotateAt .rr (.reg .l) s

/-- RR (HL) (R238). -/
def execRr_atHL (s : State) : Result := rotateAt .rr .atHL s

/-- RR A (R238). -/
def execRr_A (s : State) : Result := rotateAt .rr (.reg .a) s

/-- SLA B (R239). -/
def execSla_B (s : State) : Result := rotateAt .sla (.reg .b) s

/-- SLA C (R239). -/
def execSla_C (s : State) : Result := rotateAt .sla (.reg .c) s

/-- SLA D (R239). -/
def execSla_D (s : State) : Result := rotateAt .sla (.reg .d) s

/-- SLA E (R239). -/
def execSla_E (s : State) : Result := rotateAt .sla (.reg .e) s

/-- SLA H (R239). -/
def execSla_H (s : State) : Result := rotateAt .sla (.reg .h) s

/-- SLA L (R239). -/
def execSla_L (s : State) : Result := rotateAt .sla (.reg .l) s

/-- SLA (HL) (R239). -/
def execSla_atHL (s : State) : Result := rotateAt .sla .atHL s

/-- SLA A (R239). -/
def execSla_A (s : State) : Result := rotateAt .sla (.reg .a) s

/-- SRA B (R240). -/
def execSra_B (s : State) : Result := rotateAt .sra (.reg .b) s

/-- SRA C (R240). -/
def execSra_C (s : State) : Result := rotateAt .sra (.reg .c) s

/-- SRA D (R240). -/
def execSra_D (s : State) : Result := rotateAt .sra (.reg .d) s

/-- SRA E (R240). -/
def execSra_E (s : State) : Result := rotateAt .sra (.reg .e) s

/-- SRA H (R240). -/
def execSra_H (s : State) : Result := rotateAt .sra (.reg .h) s

/-- SRA L (R240). -/
def execSra_L (s : State) : Result := rotateAt .sra (.reg .l) s

/-- SRA (HL) (R240). -/
def execSra_atHL (s : State) : Result := rotateAt .sra .atHL s

/-- SRA A (R240). -/
def execSra_A (s : State) : Result := rotateAt .sra (.reg .a) s

/-- SWAP B (R241). -/
def execSwap_B (s : State) : Result := rotateAt .swap (.reg .b) s

/-- SWAP C (R241). -/
def execSwap_C (s : State) : Result := rotateAt .swap (.reg .c) s

/-- SWAP D (R241). -/
def execSwap_D (s : State) : Result := rotateAt .swap (.reg .d) s

/-- SWAP E (R241). -/
def execSwap_E (s : State) : Result := rotateAt .swap (.reg .e) s

/-- SWAP H (R241). -/
def execSwap_H (s : State) : Result := rotateAt .swap (.reg .h) s

/-- SWAP L (R241). -/
def execSwap_L (s : State) : Result := rotateAt .swap (.reg .l) s

/-- SWAP (HL) (R241). -/
def execSwap_atHL (s : State) : Result := rotateAt .swap .atHL s

/-- SWAP A (R241). -/
def execSwap_A (s : State) : Result := rotateAt .swap (.reg .a) s

/-- SRL B (R242). -/
def execSrl_B (s : State) : Result := rotateAt .srl (.reg .b) s

/-- SRL C (R242). -/
def execSrl_C (s : State) : Result := rotateAt .srl (.reg .c) s

/-- SRL D (R242). -/
def execSrl_D (s : State) : Result := rotateAt .srl (.reg .d) s

/-- SRL E (R242). -/
def execSrl_E (s : State) : Result := rotateAt .srl (.reg .e) s

/-- SRL H (R242). -/
def execSrl_H (s : State) : Result := rotateAt .srl (.reg .h) s

/-- SRL L (R242). -/
def execSrl_L (s : State) : Result := rotateAt .srl (.reg .l) s

/-- SRL (HL) (R242). -/
def execSrl_atHL (s : State) : Result := rotateAt .srl .atHL s

/-- SRL A (R242). -/
def execSrl_A (s : State) : Result := rotateAt .srl (.reg .a) s

end Sys2Proof.Machine
end

