-- ==== Sys2Proof/Machine/Misc.lean ====
section
/-! DEFINITION. NOP, HALT, STOP, DI, EI, the 0xCB prefix and the undefined bytes (47_misc_control.md R280 to R286). -/

namespace Sys2Proof.Machine

/-- `NOP` (R280), and `STOP` (R282, D10, log 4: a two-byte no-operation; its second byte is ignored). -/
def noOperation (len cost : Nat) (s : State) : Result :=
  .next (s.advance len cost)

/-- `HALT` (R281). -/
def haltCore (s : State) : Result :=
  .next (({ s with halted := true } : State).advance 1 (costOf .halt))

/-- `DI` and `EI` (R283, R284): effective immediately (log 5). -/
def setInterruptEnable (on : Bool) (cost : Nat) (s : State) : Result :=
  .next (({ s with ime := on } : State).advance 1 cost)

/-- The extended operation that the byte after the prefix selects (R90, R285): `ooo` or `bbb` = `b[5:3]`, `rrr` =
`b[2:0]`, the group `b[7:6]`. -/
def runExtended (ext : Byte) (s : State) : Result :=
  let l := locOfCode (ext.extractLsb' 0 3)
  let y := ext.extractLsb' 3 3
  match (ext.extractLsb' 6 2).toNat with
  | 0 => rotateAt (rotOfCode y) l s
  | 1 => testBit y l s
  | 2 => resetBit y l s
  | _ => setBit y l s

/-- NOP (R280). -/
def execNop (s : State) : Result := noOperation 1 (costOf .nop) s

/-- STOP (R282). -/
def execStop (ignored : Byte) (s : State) : Result := noOperation 2 (costOf (.stop ignored)) s

/-- HALT (R281). -/
def execHalt (s : State) : Result := haltCore s

/-- PREFIX CB (R285). -/
def execPrefix_CB (ext : Byte) (s : State) : Result := runExtended ext s

/-- (undefined byte 0xD3) (R286). -/
def execUndefined_D3 (s : State) : Result := raiseUnknownOpcode 0xD3#8 s

/-- (undefined byte 0xDB) (R286). -/
def execUndefined_DB (s : State) : Result := raiseUnknownOpcode 0xDB#8 s

/-- (undefined byte 0xDD) (R286). -/
def execUndefined_DD (s : State) : Result := raiseUnknownOpcode 0xDD#8 s

/-- (undefined byte 0xE3) (R286). -/
def execUndefined_E3 (s : State) : Result := raiseUnknownOpcode 0xE3#8 s

/-- (undefined byte 0xE4) (R286). -/
def execUndefined_E4 (s : State) : Result := raiseUnknownOpcode 0xE4#8 s

/-- (undefined byte 0xEB) (R286). -/
def execUndefined_EB (s : State) : Result := raiseUnknownOpcode 0xEB#8 s

/-- (undefined byte 0xEC) (R286). -/
def execUndefined_EC (s : State) : Result := raiseUnknownOpcode 0xEC#8 s

/-- (undefined byte 0xED) (R286). -/
def execUndefined_ED (s : State) : Result := raiseUnknownOpcode 0xED#8 s

/-- DI (R283). -/
def execDi (s : State) : Result := setInterruptEnable false (costOf .di) s

/-- (undefined byte 0xF4) (R286). -/
def execUndefined_F4 (s : State) : Result := raiseUnknownOpcode 0xF4#8 s

/-- EI (R284). -/
def execEi (s : State) : Result := setInterruptEnable true (costOf .ei) s

/-- (undefined byte 0xFC) (R286). -/
def execUndefined_FC (s : State) : Result := raiseUnknownOpcode 0xFC#8 s

/-- (undefined byte 0xFD) (R286). -/
def execUndefined_FD (s : State) : Result := raiseUnknownOpcode 0xFD#8 s

end Sys2Proof.Machine
end

