-- ==== Sys2Proof/Machine/Step.lean ====
section
/-! DEFINITION. `step()` (60_exceptions.md R300), and where a word is stored so that `step` fetches it. -/

namespace Sys2Proof.Machine

/-- One call of `step()`: exactly one of delivery, the halted step, an instruction, a fault (R300); refused when the
counter is at its bound (D1). -/
def step (s : State) : Host.Outcome State Fault Refusal :=
  match boundary s with
  | .counterFull => .refused .cycleCounterFull
  | .deliver v => .next (deliver v s)
  | .halted => .next (haltedStep s)
  | .execute i => exec i (fetched s)

/-- The state with the instruction of an opcode-table word stored at PC, so that the next `step` fetches and runs it:
a load from outside the machine, which writes ROM too. A state in which `step` would not fetch it is brought to one that
does: RAM in front of a device at PC, not halted, no deliverable request (log 18); the reset state needs none of these. -/
def State.withFetchWord (s : State) (nbits w : Nat) : State :=
  let b := tableWordBytes nbits w
  let a := s.pc
  let isDevice := s.kind a = .device ∨ s.kind (a + 1#16) = .device ∨ s.kind (a + 2#16) = .device
  { s with
    mem := Memory.write (Memory.write (Memory.write s.mem a.toNat b.1) (a + 1#16).toNat b.2.1) (a + 2#16).toNat b.2.2
    map := if isDevice then { base := a, size := 3, kind := .ram } :: s.map else s.map
    halted := false
    pending := if s.ime then none else s.pending }

end Sys2Proof.Machine
end

