-- ==== Sys2Proof/Machine/Bus.lean ====
section
/-! DEFINITION. The accesses of a step on the Memory Interface, in order (20_memory.md R55 to R58). A word access is two
byte accesses, low address first (R57, D12, log 14). This is a description beside `exec`, whose operations make each
access themselves (log 20); claims hold it against `exec`, device side effects included. -/

namespace Sys2Proof.Machine

/-- The two addresses of a word access, low address first. -/
def wordAddresses (a : Word) : List Word := [a, a + 1#16]

/-- The two byte writes of a word access, low address first. -/
def wordWrites (a v : Word) : List (Word × Byte) := [(a, loByte v), (a + 1#16, hiByte v)]

/-- The read of an operand location. -/
def locReads (l : Loc) (s : State) : List Word :=
  match l with
  | .reg _ => []
  | .atHL => [s.hl]

/-- The write of `v` to an operand location. -/
def locWrites (l : Loc) (v : Byte) (s : State) : List (Word × Byte) :=
  match l with
  | .reg _ => []
  | .atHL => [(s.hl, v)]

/-- The read of an accumulator source. -/
def sourceReads (src : Src) (s : State) : List Word :=
  match src with
  | .loc l => locReads l s
  | .imm _ => []

/-- The location and group of an extended byte, as `runExtended` reads them. -/
def extendedReads (ext : Byte) (s : State) : List Word := locReads (locOfCode (ext.extractLsb' 0 3)) s

/-- The data write of the extended operation of a byte. -/
def extendedWrites (ext : Byte) (s : State) : List (Word × Byte) :=
  let l := locOfCode (ext.extractLsb' 0 3)
  let y := ext.extractLsb' 3 3
  match (ext.extractLsb' 6 2).toNat with
  | 0 => locWrites l (rotate8 (rotOfCode y) (s.readLoc l) s.fC).1 s
  | 1 => []
  | 2 => locWrites l (s.readLoc l &&& ~~~(bitMask y)) s
  | _ => locWrites l (s.readLoc l ||| bitMask y) s

/-- The addresses of the data bytes an instruction reads, in order (R55). -/
def dataReads (s : State) : Form → List Word
  | .ldRegAtHL _ | .ldAAtHLInc | .ldAAtHLDec => [s.hl]
  | .ldAAtBC => [s.bc]
  | .ldAAtDE => [s.de]
  | .ldAAtAbs a16 => [a16]
  | .ldhAAt a8 => [highPage a8]
  | .ldAAtC => [highPage s.c]
  | .pop _ | .ret | .reti => wordAddresses s.sp
  | .retIf cc => if s.cond cc then wordAddresses s.sp else []
  | .alu _ src => sourceReads src s
  | .incLoc l | .decLoc l | .rot _ l | .bit _ l | .res _ l | .set _ l => locReads l s
  | .prefixed ext => extendedReads ext s
  | .ldRegReg _ _ | .ldRegImm _ _ | .ldAtHLReg _ | .ldAtHLImm _ | .ldAtBCA | .ldAtDEA | .ldAtAbsA _ | .ldhAtA _ => []
  | .ldAtCA | .ldAtHLIncA | .ldAtHLDecA | .ldPairImm _ _ | .ldAtAbsSP _ | .ldSPHL | .ldHLSPPlus _ | .push _ => []
  | .daa | .cpl | .scf | .ccf | .addHL _ | .incPair _ | .decPair _ | .addSP _ | .rlca | .rrca | .rla | .rra => []
  | .jp _ | .jpIf _ _ | .jpHL | .jr _ | .jrIf _ _ | .call _ | .callIf _ _ | .rst _ => []
  | .nop | .halt | .stop _ | .di | .ei | .undefinedByte _ => []

/-- The data bytes an instruction writes, in order (R55). -/
def dataWrites (s : State) : Form → List (Word × Byte)
  | .ldAtHLReg src => [(s.hl, s.reg src)]
  | .ldAtHLImm d8 => [(s.hl, d8)]
  | .ldAtBCA => [(s.bc, s.a)]
  | .ldAtDEA => [(s.de, s.a)]
  | .ldAtAbsA a16 => [(a16, s.a)]
  | .ldhAtA a8 => [(highPage a8, s.a)]
  | .ldAtCA => [(highPage s.c, s.a)]
  | .ldAtHLIncA | .ldAtHLDecA => [(s.hl, s.a)]
  | .ldAtAbsSP a16 => wordWrites a16 s.sp
  | .push q => wordWrites (s.sp - 2#16) (s.stackPair q)
  | .incLoc l => locWrites l (inc8 (s.readLoc l)).1 s
  | .decLoc l => locWrites l (dec8 (s.readLoc l)).1 s
  | .rot op l => locWrites l (rotate8 op (s.readLoc l) s.fC).1 s
  | .res n l => locWrites l (s.readLoc l &&& ~~~(bitMask n)) s
  | .set n l => locWrites l (s.readLoc l ||| bitMask n) s
  | .call _ => wordWrites (s.sp - 2#16) (s.next 3)
  | .callIf cc _ => if s.cond cc then wordWrites (s.sp - 2#16) (s.next 3) else []
  | .rst _ => wordWrites (s.sp - 2#16) (s.next 1)
  | .prefixed ext => extendedWrites ext s
  | .ldRegReg _ _ | .ldRegImm _ _ | .ldRegAtHL _ | .ldAAtBC | .ldAAtDE | .ldAAtAbs _ | .ldhAAt _ | .ldAAtC => []
  | .ldAAtHLInc | .ldAAtHLDec | .ldPairImm _ _ | .ldSPHL | .ldHLSPPlus _ | .pop _ | .alu _ _ | .bit _ _ => []
  | .daa | .cpl | .scf | .ccf | .addHL _ | .incPair _ | .decPair _ | .addSP _ | .rlca | .rrca | .rla | .rra => []
  | .jp _ | .jpIf _ _ | .jpHL | .jr _ | .jrIf _ _ | .ret | .retIf _ | .reti => []
  | .nop | .halt | .stop _ | .di | .ei | .undefinedByte _ => []

/-- The data accesses of an instruction, reads before writes (R56). -/
def dataAccesses (f : Form) (s : State) : List Access :=
  (dataReads s f).map .read ++ (dataWrites s f).map fun w => .write w.1 w.2

/-- The accesses of one step, in the order of R56: instruction bytes, data reads, data writes. A halted step and a
refused one make none; a delivery makes one word write and no fetch; an undefined byte is fetched alone. -/
def stepAccesses (s : State) : List Access :=
  match boundary s with
  | .counterFull => []
  | .deliver _ => (wordWrites (s.sp - 2#16) s.pc).map fun w => .write w.1 w.2
  | .halted => []
  | .execute i => (fetchAddresses s).map .read ++ dataAccesses i.form (fetched s)

end Sys2Proof.Machine
end

