-- ==== Sys2Proof/Machine/External.lean ====
section
/-! DEFINITION. The host's operations on the core (00_scope.md R8): `reset()`, `step()` with its result,
`cycle_count()`, `request_interrupt(v)`. They are called only at step boundaries (R8, U14). -/

namespace Sys2Proof.Machine

/-- `reset()` (R340): every item of core state takes its reset value; memory is neither read nor written (R342), and what
is behind the Memory Interface stays as it is. -/
def State.resetCore (s : State) : State := { State.reset with mem := s.mem, map := s.map, bus := s.bus }

/-- The reset state with a launch memory and a memory map: "the initial memory and the Memory Interface's behaviour as
parameters" (R342, D14; logs 2, 15). -/
def State.launch (m : Memory) (map : List Region) : State := { State.reset with mem := m, map := map }

/-- `request_interrupt(v)` (R305): `pending <- v` and nothing else; refused while the slot is full (R306, D3,
log 9). -/
def requestInterrupt (v : Word) (s : State) : Result :=
  match s.pending with
  | none => .next { s with pending := some v }
  | some _ => .refused .pendingSlotFull

/-- `cycle_count() -> u64` (R319). -/
def State.cycleCount (s : State) : BitVec Config.cycleWidth := BitVec.ofNat Config.cycleWidth s.cycles

/-- The result of a call of `step()` as the host sees it (R300). -/
inductive StepReply where
  /-- `Ok(cycles_consumed)`: the increase of `cycles` during the call. -/
  | ok (cyclesConsumed : Nat)
  /-- `Err(UnknownOpcode{opcode, pc, cycles})`. -/
  | err (report : Fault)
  /-- The call is outside the spec. -/
  | refused (why : Refusal)
deriving DecidableEq, Repr

/-- What `step()` returns to the host. -/
def stepReply (s : State) : StepReply :=
  match step s with
  | .next t => .ok (t.cycles - s.cycles)
  | .fault r => .err r
  | .refused r => .refused r

/-- The state after a call of `step()`: a fault and a refusal change nothing in the core (R301, R33); the byte that a
fault is raised on has been read (R56). -/
def stateAfterStep (s : State) : State :=
  match step s with
  | .next t => t
  | .fault _ => fetched s
  | .refused _ => s

end Sys2Proof.Machine
end

