-- ==== Sys2Proof/Safety.lean ====
section
/-! DEFINITION. What counts as a good state and a good run, in the terms claims use. -/

namespace Sys2Proof.Machine

/-- The low nibble of F is zero (10_state.md R27). -/
def State.flagsClean (s : State) : Bool := s.f &&& 0x0F#8 == 0#8

/-- Every access that devices have seen was to a device's address. -/
def State.busClean (s : State) : Bool := s.bus.all fun x => decide (s.kind x.address = .device)

/-- The invariant of the machine: F's hard-wired bits are zero, memory is in canonical form, and nothing but the accesses
to device addresses reaches a device. -/
def State.inv (s : State) : Bool := s.flagsClean && Memory.wf s.mem && s.busClean

/-- A hang (60_exceptions.md R311, U2): halted with interrupts disabled, which only `reset()` ends. Never a normal end
of a run. -/
def State.hung (s : State) : Bool := s.halted && !s.ime

/-- A state in which `step()` executes the instruction at PC: the counter below its bound, no deliverable request, not
halted (R300). -/
def State.fetches (s : State) : Prop :=
  s.cycles < Config.cycleLimit ∧ (s.pending = none ∨ s.ime = false) ∧ s.halted = false

/-- A run of `n` steps goes wrong when it reaches a fault: the faulted state is terminal and never good (R302). -/
def runsWithoutFault (n : Nat) (s : State) : Prop :=
  ∀ r, Host.Core.run { State := State, Fault := Fault, Refusal := Refusal, step := step, reset := State.reset } n s ≠
    .fault r

end Sys2Proof.Machine
end

