-- ==== Sys2Proof/Certificates/Slice0/Obligations.lean ====
section
/-! DEFINITION. The statements for the provers. The helpers below restate the spec's arithmetic on natural numbers and
integers, apart from the model's own bit-vector definitions. `Runs` says an instruction's bytes, that it completes, its
result, its accesses and its whole frame at once: every field of State that the written record does not name is
unchanged, every byte of storage outside the listed stores is as before, and devices see the listed accesses and no
others. Each holds for every memory map: RAM, ROM and devices at any address (the form of that parameter is log 2). -/

namespace Sys2Proof.Claims

open Sys2Proof.Machine

/-- What the devices have seen after the core made `accesses` from `s`, latest first: those to device addresses, once
each, in order. -/
def seenBy (s : State) (accesses : List Access) : List Access :=
  (accesses.filter fun x => decide (s.kind x.address = .device)).reverse ++ s.bus

/-- The byte and the address that an access stores, if it is a write to RAM. -/
def ramStore (s : State) : Access → Option (Word × Byte)
  | .read _ => none
  | .write a v => if s.kind a = .ram then some (a, v) else none

/-- The byte of storage at `x` after the core made `accesses` from `s`, which write each byte at most once: the byte
written if it is RAM, else the old one. -/
def storedAfter (s : State) (accesses : List Access) (x : Word) : Byte :=
  ((accesses.filterMap (ramStore s)).lookup x).getD (s.stored x)

/-- From `s`, the machine is in `t` after making exactly `accesses`: `t` is `post` in every field but storage and the
accesses that devices have seen, and these two are what the accesses leave. -/
def Becomes (s t post : State) (accesses : List Access) : Prop :=
  { t with mem := s.mem, bus := s.bus } = { post with mem := s.mem, bus := s.bus } ∧
    t.bus = seenBy s accesses ∧ ∀ x : Word, t.stored x = storedAfter s accesses x

/-- The instruction `i` is the bytes `bytes`, and from `s` it answers the next state that is `post`, after exactly the
data accesses `accesses`. -/
def Runs (i : Instr) (s : State) (bytes : List Byte) (post : State) (accesses : List Access) : Prop :=
  encode i = bytes ∧ ∃ t, exec i s = .next t ∧ Becomes s t post accesses

/-- `v[7:0]`, by arithmetic. -/
def low (v : Word) : Byte := BitVec.ofNat 8 (v.toNat % 256)

/-- `v[15:8]`, by arithmetic. -/
def high (v : Word) : Byte := BitVec.ofNat 8 (v.toNat / 256)

/-- What a read at `x` delivers once the core made `accesses` from `s`, none of them a write to RAM: a device may answer
by what it has seen. -/
def readNext (s : State) (accesses : List Access) (x : Word) : Byte :=
  ({ s with bus := seenBy s accesses } : State).readByte x

/-- The little-endian word read at `x`, low byte first (20_memory.md R52; the order is decision D12, log 14). -/
def wordAt (s : State) (x : Word) : Word :=
  BitVec.ofNat 16 (256 * (readNext s [.read x] (x + 1#16)).toNat + (s.readByte x).toNat)

/-- The two byte reads of a word at `x` (R52, R53), low byte first (the order is decision D12, log 14). -/
def wordReads (x : Word) : List Access := [.read x, .read (x + 1#16)]

/-- The two byte writes of the word `v` at `x` (R52, R53), low byte first (the order is decision D12, log 14). -/
def wordStores (x v : Word) : List Access := [.write x (low v), .write (x + 1#16) (high v)]

/-- The bytes of a 16-bit immediate, low byte first (30_encoding.md R86). -/
def immBytes (v : Word) : List Byte := [low v, high v]

/-- `cond(cc)` (46_control.md R260). -/
def condHolds (cc : Cond) (s : State) : Prop :=
  match cc with
  | .nz => s.fZ = false
  | .z => s.fZ = true
  | .nc => s.fC = false
  | .c => s.fC = true

/-- Bytes, length and cost of an accumulator operation with code `aaa` (43_alu8.md R190). -/
def aluShape (aaa : BitVec 3) (src : Src) : List Byte × Word × Nat :=
  match src with
  | .loc (.reg r) => ([0b10#2 ++ aaa ++ r.code], 1#16, 1)
  | .loc .atHL => ([0b10#2 ++ aaa ++ 0b110#3], 1#16, 2)
  | .imm d8 => ([0b11#2 ++ aaa ++ 0b110#3, d8], 2#16, 2)

/-- The read of an operand location. -/
def locRead (l : Loc) (s : State) : List Access :=
  match l with
  | .reg _ => []
  | .atHL => [.read s.hl]

/-- The read of the source of an accumulator operation. -/
def sourceRead (src : Src) (s : State) : List Access :=
  match src with
  | .loc l => locRead l s
  | .imm _ => []

/-- The accumulator operation `i` with code `aaa` leaves A = `result` and F = `flags`, and nothing else but PC and
`cycles` (R190). -/
def Accumulates (i : Instr) (s : State) (aaa : BitVec 3) (src : Src) (result flags : Byte) : Prop :=
  Runs i s (aluShape aaa src).1
    { s with a := result, f := flags, pc := s.pc + (aluShape aaa src).2.1, cycles := s.cycles + (aluShape aaa src).2.2 }
    (sourceRead src s)

/-- Sum and flags of an 8-bit addition, on naturals (40_alu_primitives.md R111). -/
def addResult (a v cin : Nat) : Byte := BitVec.ofNat 8 (a + v + cin)
def addFlags (a v cin : Nat) : Byte :=
  flagByte (decide ((a + v + cin) % 256 = 0)) false (decide (a % 16 + v % 16 + cin > 15)) (decide (a + v + cin > 255))

/-- Difference and flags of an 8-bit subtraction, on integers (R112). -/
def subResult (a v bin : Nat) : Byte := BitVec.ofInt 8 ((a : Int) - v - bin)
def subFlags (a v bin : Nat) : Byte :=
  flagByte (decide (((a : Int) - v - bin) % 256 = 0)) true (decide (a % 16 < v % 16 + bin)) (decide (a < v + bin))

/-- The state and the accesses after reading an operand location and writing `v` to it (30_encoding.md R82,
20_memory.md R55: "exactly one byte read followed by one byte write at the same address"). -/
def atLoc (l : Loc) (v : Byte) (s : State) : State × List Access :=
  match l with
  | .reg r => (s.setReg r v, [])
  | .atHL => (s, [.read s.hl, .write s.hl v])

/-- The cost by operand kind. -/
def kindCost (l : Loc) (ifReg ifMem : Nat) : Nat :=
  match l with
  | .reg _ => ifReg
  | .atHL => ifMem

/-- The extended operation `i` with second byte `ext` writes `v` to `l` and leaves F = `flags` (R234). -/
def WritesBack (i : Instr) (s : State) (ext : Byte) (l : Loc) (v flags : Byte) : Prop :=
  Runs i s [0xCB#8, ext]
    { (atLoc l v s).1 with f := flags, pc := s.pc + 2#16, cycles := s.cycles + kindCost l 2 4 } (atLoc l v s).2

/-- The flags of a rotate or shift: Z from the result, N = H = 0, C = the bit shifted out. -/
def shiftedFlags (result : Byte) (carry : Bool) : Byte := flagByte (decide (result.toNat = 0)) false false carry

/-- The 11 undefined values of byte 0 (30_encoding.md R89). -/
def undefinedBytes : List Byte :=
  [0xD3#8, 0xDB#8, 0xDD#8, 0xE3#8, 0xE4#8, 0xEB#8, 0xEC#8, 0xED#8, 0xF4#8, 0xFC#8, 0xFD#8]

/-- Where an instruction takes PC (10_state.md R24): a control transfer whose condition holds assigns its target; every
other instruction goes to `next`. -/
def pcAfter (f : Form) (s : State) (next : Word) : Word :=
  match f with
  | .jp a16 => a16
  | .jpHL => s.hl
  | .jr e8 => BitVec.ofInt 16 (next.toNat + e8.toInt)
  | .call a16 => a16
  | .ret => wordAt s s.sp
  | .reti => wordAt s s.sp
  | .rst t => BitVec.ofNat 16 (8 * t.toNat)
  | .jpIf cc a16 => if s.cond cc then a16 else next
  | .jrIf cc e8 => if s.cond cc then BitVec.ofInt 16 (next.toNat + e8.toInt) else next
  | .callIf cc a16 => if s.cond cc then a16 else next
  | .retIf cc => if s.cond cc then wordAt s s.sp else next
  | .ldRegReg _ _ | .ldRegImm _ _ | .ldRegAtHL _ | .ldAtHLReg _ | .ldAtHLImm _ => next
  | .ldAAtBC | .ldAAtDE | .ldAtBCA | .ldAtDEA | .ldAAtAbs _ | .ldAtAbsA _ | .ldhAAt _ | .ldhAtA _ => next
  | .ldAAtC | .ldAtCA | .ldAtHLIncA | .ldAtHLDecA | .ldAAtHLInc | .ldAAtHLDec => next
  | .ldPairImm _ _ | .ldAtAbsSP _ | .ldSPHL | .ldHLSPPlus _ | .push _ | .pop _ => next
  | .alu _ _ | .incLoc _ | .decLoc _ | .daa | .cpl | .scf | .ccf => next
  | .addHL _ | .incPair _ | .decPair _ | .addSP _ => next
  | .rlca | .rrca | .rla | .rra | .rot _ _ | .bit _ _ | .res _ _ | .set _ _ | .prefixed _ => next
  | .nop | .halt | .stop _ | .di | .ei | .undefinedByte _ => next

/-- A packed-BCD byte of the decimal digits `tens` and `units`. -/
def bcd (tens units : Fin 10) : Byte := BitVec.ofNat 8 (16 * tens.val + units.val)

end Sys2Proof.Claims

open Sys2Proof Sys2Proof.Machine Sys2Proof.Claims

-- Encoding

/-- Decoding an encoded instruction gives it back, with every operand at every value, and leaves the bytes after it
(30_encoding.md R81, R88, R90, R91). -/
def Obligations.DecodeOfEncodeIsTheInstruction : Prop :=
  ∀ (i : Instr) (rest : List Byte), i.wellFormed = true → decode (encode i ++ rest) = .ok (i, rest)

/-- Each byte string has one reading: what decodes to `i` is the bytes of `i` and the rest, and `i` is well formed
(R91, R93). -/
def Obligations.EncodeOfDecodeIsTheBytes : Prop :=
  ∀ (bytes : List Byte) (i : Instr) (rest : List Byte),
    decode bytes = .ok (i, rest) → encode i ++ rest = bytes ∧ i.wellFormed = true

/-- Decoding is total: it stops only on a list shorter than the 1 to 3 bytes that byte 0 alone asks for (the lengths are
R80's and R91's). That decoding an undefined byte gives an instruction, whose meaning is then the fault, where R91 says
`fault` in the decode itself, is the model's reading (DEDUCED, log 10). -/
def Obligations.DecodeStopsOnlyOnShortInput : Prop :=
  (∀ b0 : Byte, 1 ≤ instrLength b0 ∧ instrLength b0 ≤ 3) ∧
  (∀ (b0 : Byte) (rest : List Byte), instrLength b0 ≤ rest.length + 1 →
    ∃ i, decode (b0 :: rest) = .ok (i, rest.drop (instrLength b0 - 1)) ∧ (encode i).length = instrLength b0) ∧
  (∀ (b0 : Byte) (rest : List Byte), rest.length + 1 < instrLength b0 →
    decode (b0 :: rest) = .error (.truncated b0)) ∧
  decode [] = .error .noBytes

/-- The extended decode of R90: `rrr = b[2:0]`, `ooo` or `bbb` = `b[5:3]`, the group from `b[7:6]`; the prefix and the
extended byte are one instruction of two bytes. -/
def Obligations.ExtendedByteSelectsOperation : Prop :=
  ∀ (b : Byte) (rest : List Byte), ∃ i, decode (0xCB#8 :: b :: rest) = .ok (i, rest) ∧
    ∃ l : Loc, l.code.toNat = b.toNat % 8 ∧
      (b.toNat < 0x40 → ∃ op : RotOp, op.code.toNat = b.toNat / 8 % 8 ∧ i.form = .rot op l) ∧
      (0x40 ≤ b.toNat ∧ b.toNat < 0x80 → i.form = .bit (BitVec.ofNat 3 (b.toNat / 8)) l) ∧
      (0x80 ≤ b.toNat ∧ b.toNat < 0xC0 → i.form = .res (BitVec.ofNat 3 (b.toNat / 8)) l) ∧
      (0xC0 ≤ b.toNat → i.form = .set (BitVec.ofNat 3 (b.toNat / 8)) l)

/-- Exactly the 11 bytes of R89 are undefined, whatever follows them. -/
def Obligations.ElevenBytesAreUndefined : Prop :=
  undefinedBytes.length = 11 ∧
  ∀ b0 b1 b2 : Byte, (decodeBytes b0 b1 b2).isUndefined = true ↔ b0 ∈ undefinedBytes

/-- The encodings the source document itself gives (95_test_vectors.md S8 to S11), and some of R88 and R90. -/
def Obligations.SampleWordsDecode : Prop :=
  decode [0x3C#8] = .ok (.inc_A, []) ∧
  decode [0xC3#8, 0x50#8, 0x01#8] = .ok (.jp_a16 0x0150#16, []) ∧
  decode [0xCB#8, 0x00#8] = .ok (.rlc_B, []) ∧
  decode [0xD3#8] = .ok (.undefined_D3, []) ∧
  decode [0xCB#8, 0xCB#8] = .ok (.set_1_E, []) ∧
  decode [0x76#8] = .ok (.halt, []) ∧
  decode [0x22#8] = .ok (.ld_atHLinc_A, []) ∧
  decode [0x31#8, 0x00#8, 0xD0#8] = .ok (.ld_SP_d16 0xD000#16, []) ∧
  decode [0xF5#8] = .ok (.push_AF, []) ∧
  decode [0x9E#8] = .ok (.sbc_A_atHL, []) ∧
  decode [0xE8#8, 0xFE#8] = .ok (.add_SP_e8 0xFE#8, [])

-- The step

/-- A step runs the decoded instruction: where the bytes at PC, read one after the other and as many as byte 0 asks for,
decode to `i`, `step` is `exec i` (60_exceptions.md R300 case 4). The one thing around `exec` is that devices at those
addresses have seen the reads; the instruction itself assigns PC. The order in which a device would see them, and that
every byte of the instruction is read whether it is used or not, is the spec's decision D13 (log 14). -/
def Obligations.StepRunsTheDecodedInstruction : Prop :=
  ∀ (s : State) (i : Instr) (rest : List Byte),
    let b1 := readNext s [.read s.pc] (s.pc + 1#16)
    let b2 := readNext s [.read s.pc, .read (s.pc + 1#16)] (s.pc + 2#16)
    let reads := [Access.read s.pc, .read (s.pc + 1#16), .read (s.pc + 2#16)].take (encode i).length
    s.fetches → decode [s.readByte s.pc, b1, b2] = .ok (i, rest) →
      i.wellFormed = true ∧ fetchInstr s = i ∧ step s = exec i { s with bus := seenBy s reads }

/-- The choice at a step boundary (R300, R307; its order is the spec's decisions D4, D17, log 16; the bound is D1,
log 8). -/
def Obligations.StepChoosesInOrder : Prop :=
  ∀ s : State,
    (Config.cycleLimit ≤ s.cycles → step s = .refused .cycleCounterFull) ∧
    (s.cycles < Config.cycleLimit →
      (∀ v, boundary s = .deliver v ↔ s.pending = some v ∧ s.ime = true) ∧
      (boundary s = .halted ↔ s.halted = true ∧ (s.pending = none ∨ s.ime = false)) ∧
      (∀ i, boundary s = .execute i ↔
        s.halted = false ∧ (s.pending = none ∨ s.ime = false) ∧ i = fetchInstr s) ∧
      ∀ why, step s ≠ .refused why)

/-- Delivery (R308): only PC is saved, on the stack; IME and `halted` are cleared, the slot is emptied. The order in
which a device would see the two stack bytes is the spec's decision D12 (log 14); that a delivery is a step of its own,
tried before the halted step and before a fetch, is D4 and D17 (log 16). -/
def Obligations.DeliveryEntersTheHandler : Prop :=
  ∀ (s : State) (v : Word), s.cycles < Config.cycleLimit → s.pending = some v → s.ime = true →
    ∃ t, step s = .next t ∧
      Becomes s t
        { s with
          halted := false, sp := s.sp - 2#16, pc := v, ime := false, pending := none,
          cycles := s.cycles + Config.intDispatchCycles }
        (wordStores (s.sp - 2#16) s.pc)

/-- The halted step (R310): one cycle and nothing else, memory included. -/
def Obligations.HaltedStepOnlyCounts : Prop :=
  ∀ s : State, s.cycles < Config.cycleLimit → s.halted = true → (s.pending = none ∨ s.ime = false) →
    step s = .next { s with cycles := s.cycles + 1 } ∧ stepAccesses s = [] ∧ stepReply s = .ok 1

/-- The undefined bytes (47_misc_control.md R286): the constructor of each stops with the report, a step that fetches
one reports it, changes nothing in the core or in storage, and reads no byte after byte 0. -/
def Obligations.UndefinedByteFaults : Prop :=
  (∀ (i : Instr) (opcode : Byte) (s : State), i.form = .undefinedByte opcode →
    opcode ∈ undefinedBytes ∧ encode i = [opcode] ∧ exec i s = .fault (.unknownOpcode opcode s.pc s.cycles)) ∧
  (∀ s : State, s.fetches → s.readByte s.pc ∈ undefinedBytes →
    step s = .fault (.unknownOpcode (s.readByte s.pc) s.pc s.cycles) ∧
      stateAfterStep s = { s with bus := seenBy s [.read s.pc] } ∧ stepAccesses s = [.read s.pc])

/-- `UnknownOpcode` is the only fault, raised only by an undefined byte at PC (R301, R303). -/
def Obligations.OnlyUndefinedBytesFault : Prop :=
  (∀ (s : State) (r : Fault), step s = .fault r →
    s.fetches ∧ s.readByte s.pc ∈ undefinedBytes ∧ r = .unknownOpcode (s.readByte s.pc) s.pc s.cycles) ∧
  (∀ (i : Instr) (s : State), i.isUndefined = false → ∃ t, exec i s = .next t)

/-- `request_interrupt(v)` (R305, R306; decisions D3, D4; log 9): it fills an empty slot and changes nothing else; with
the slot full it is refused. -/
def Obligations.RequestFillsTheEmptySlot : Prop :=
  ∀ (s : State) (v : Word),
    (s.pending = none → requestInterrupt v s = .next { s with pending := some v }) ∧
    (∀ w, s.pending = some w → requestInterrupt v s = .refused .pendingSlotFull)

/-- `EI` acts at once (47_misc_control.md R284, 60_exceptions.md R317; decision D7, log 5): a pending request is
delivered at the very next boundary, and the address after `EI` is what it pushes, wherever the stack is. The choices of
the spec that it rests on beside D7: a delivery is a step of its own (D4, log 16) and costs no cycle, so that the two
steps add the one cycle of `EI` (D5, log 7); a device would see the low stack byte first (D12, log 14). -/
def Obligations.RequestDeliveredRightAfterEi : Prop :=
  ∀ (s : State) (v : Word), s.fetches → s.cycles + 1 < Config.cycleLimit → s.readByte s.pc = 0xFB#8 →
    s.pending = some v →
    ∃ t u, step s = .next t ∧ step t = .next u ∧
      Becomes s u
        { s with sp := s.sp - 2#16, pc := v, ime := false, pending := none, cycles := s.cycles + 1 }
        (.read s.pc :: wordStores (s.sp - 2#16) (s.pc + 1#16))

/-- `RETI` with a request pending (R315, derived there): the request is delivered before the interrupted program runs,
and the return address pushed is the one `RETI` just popped, so that a stack in RAM is as before. The choices of the
spec that it rests on: a delivery is a step of its own (D4, log 16) and costs no cycle, so that the two steps add the
four cycles of `RETI` (D5, log 7); a device would see the opcode's read first and low bytes before high ones (D12, D13,
log 14). -/
def Obligations.RetiWithPendingReentersTheHandler : Prop :=
  ∀ (s : State) (v : Word), s.fetches → s.cycles + 4 < Config.cycleLimit → s.readByte s.pc = 0xD9#8 →
    s.pending = some v →
    ∃ t u, step s = .next t ∧ step t = .next u ∧
      let fetchedOnce : State := { s with bus := seenBy s [.read s.pc] }
      t.ime = true ∧ t.pc = wordAt fetchedOnce s.sp ∧
      Becomes s u { s with pc := v, ime := false, pending := none, cycles := s.cycles + 4 }
        (.read s.pc :: (wordReads s.sp ++ wordStores s.sp t.pc)) ∧
      (s.kind s.sp = .ram → s.kind (s.sp + 1#16) = .ram → ∀ x : Word, u.stored x = s.stored x)

/-- Delivery and return (R308, R270, R314): with the stack in RAM and `RETI` as the handler at the vector, two steps
bring the machine back to where it was, interrupts enabled, with the slot empty, `halted` cleared, the two stack bytes
written and four cycles more: those of `RETI` alone, since a delivery costs none by decision D5 (log 7). That the delivery
is a step of its own is D4 (log 16); what order a device would see is D12 and D13 (log 14). -/
def Obligations.DeliveryThenRetiComesBack : Prop :=
  ∀ (s : State) (v : Word), s.cycles + 4 < Config.cycleLimit → s.pending = some v → s.ime = true →
    s.readByte v = 0xD9#8 → v ≠ s.sp - 2#16 → v ≠ s.sp - 1#16 →
    s.kind (s.sp - 2#16) = .ram → s.kind (s.sp - 1#16) = .ram →
    ∃ t u, step s = .next t ∧ step t = .next u ∧
      Becomes s u { s with halted := false, pending := none, cycles := s.cycles + 4 }
        (wordStores (s.sp - 2#16) s.pc ++ .read v :: wordReads (s.sp - 2#16))

/-- A core halted with IME = 0 stays halted for any number of steps, one cycle each, whether or not a request is
pending (R311, 47_misc_control.md R281; decision D6, log 6). -/
def Obligations.HaltedWithInterruptsDisabledIsForEver : Prop :=
  ∀ (n : Nat) (s : State), s.hung = true → s.cycles + n ≤ Config.cycleLimit →
    Host.Core.run core n s = .next { s with cycles := s.cycles + n }

/-- The state after reset (10_state.md R35, 70_reset_and_hazards.md R340, R342). `halted`, IME and `pending` are the
spec's decision D9 (log 3); that nothing is listed in memory is the model's choice (log 1). `reset()` from any state
gives the same core state and leaves what is behind the Memory Interface alone. -/
def Obligations.ResetValues : Prop :=
  State.reset.stackPair .af = 0x01B0#16 ∧ State.reset.a = 0x01#8 ∧ State.reset.f = 0xB0#8 ∧
  State.reset.bc = 0x0013#16 ∧ State.reset.de = 0x00D8#16 ∧ State.reset.hl = 0x014D#16 ∧
  State.reset.sp = 0xFFFE#16 ∧ State.reset.pc = 0x0100#16 ∧ State.reset.cycles = 0 ∧
  State.reset.halted = false ∧ State.reset.ime = false ∧ State.reset.pending = none ∧ State.reset.mem = [] ∧
  ∀ s : State, s.resetCore = { State.reset with mem := s.mem, map := s.map, bus := s.bus }

/-- The invariant holds at reset, and with every canonical launch memory and every memory map (R27, R342, D14). -/
def Obligations.InvariantHoldsAtReset : Prop :=
  State.reset.inv = true ∧
  ∀ (m : Memory) (map : List Region), Memory.wf m = true → (State.launch m map).inv = true

/-- Every step keeps the invariant: F's low nibble zero (R27), memory in canonical form, and no access but those to
device addresses seen by a device (the model's own field `bus`, log 2). -/
def Obligations.StepKeepsTheInvariant : Prop :=
  ∀ s t : State, s.inv = true → step s = .next t → t.inv = true

/-- The low nibble of F (R27): zero after reset; zero after every step from a state where it is; `POP AF` masks what it
loads; `PUSH AF` always writes a zero low nibble, and RAM then holds it. -/
def Obligations.LowNibbleOfFStaysZero : Prop :=
  State.reset.f &&& 0x0F#8 = 0#8 ∧
  (∀ s t : State, s.f &&& 0x0F#8 = 0#8 → step s = .next t → t.f &&& 0x0F#8 = 0#8) ∧
  (∀ s t : State, exec .pop_AF s = .next t → t.f = s.readByte s.sp &&& 0xF0#8) ∧
  (∀ s : State, ∃ lo : Byte, (s.sp - 2#16, lo) ∈ dataWrites s Instr.push_AF.form ∧ lo &&& 0x0F#8 = 0#8) ∧
  (∀ s t : State, exec .push_AF s = .next t → s.kind (s.sp - 2#16) = .ram → t.readByte t.sp &&& 0x0F#8 = 0#8)

/-- Words are little-endian and wrap (20_memory.md R52): the byte at the lower address is the less significant one, at
`0xFFFF` too, and a word read back from RAM after a word write is the word written. The order in which a device would
see the two bytes is the spec's decision D12 (log 14). -/
def Obligations.WordsAreLittleEndian : Prop :=
  ∀ (s : State) (x v : Word),
    s.readWord x = wordAt s x ∧ (s.afterReadWord x).bus = seenBy s (wordReads x) ∧
    Becomes s (s.writeWord x v) s (wordStores x v) ∧
    (s.kind x = .ram → s.kind (x + 1#16) = .ram →
      (s.writeWord x v).readByte x = low v ∧ (s.writeWord x v).readByte (x + 1#16) = high v ∧
      (∀ y : Word, y ≠ x → y ≠ x + 1#16 → (s.writeWord x v).readByte y = s.readByte y) ∧
      (s.writeWord x v).readWord x = v)

/-- The Memory Interface is a parameter (20_memory.md R58, R63; D14, U8; log 2). An address is what the first window of
the map that holds it says, RAM where none does. RAM answers the last byte written, ROM keeps its byte, a device answers
whatever its free function gives for what it has seen, and sees the access; every access completes. -/
def Obligations.InterfaceFollowsTheMap : Prop :=
  (∀ (s : State) (a : Word), s.map = [] → s.kind a = .ram) ∧
  (∀ (s : State) (r : Region) (rest : List Region) (a : Word), s.map = r :: rest →
    s.kind a = if (a.toNat + 65536 - r.base.toNat) % 65536 < r.size then r.kind
      else ({ s with map := rest } : State).kind a) ∧
  (∀ (s : State) (a : Word) (v : Byte),
    (s.kind a = .ram →
      (s.writeByte a v).readByte a = v ∧ (∀ x : Word, x ≠ a → (s.writeByte a v).readByte x = s.readByte x) ∧
      s.writeByte a v = { s with mem := (s.writeByte a v).mem } ∧ s.afterRead a = s ∧ s.readByte a = s.stored a) ∧
    (s.kind a = .rom → s.writeByte a v = s ∧ s.afterRead a = s ∧ s.readByte a = s.stored a) ∧
    (s.kind a = .device →
      s.readByte a = Config.deviceAnswer s.bus a ∧ s.afterRead a = { s with bus := .read a :: s.bus } ∧
      s.writeByte a v = { s with bus := .write a v :: s.bus }))

/-- The registers, pairs and flags that the other statements name, each in its place. A register is read and written
under its own name and code (R7, R82); a pair is the live composition of its halves, first-named register high, so that
a write to a half is visible at once in the pair and a write to a pair is a write to both halves (10_state.md R21, R83);
Z, N, H, C are bits 7, 6, 5, 4 of F (R26, as the spec reads the document's two lists), and `POP AF` loads them from
those bits (R28, R176). -/
def Obligations.PairsAreLiveCompositions : Prop :=
  ∀ (s : State) (v : Word) (b : Byte),
    -- a register read
    (s.reg .b = s.b ∧ s.reg .c = s.c ∧ s.reg .d = s.d ∧ s.reg .e = s.e ∧ s.reg .h = s.h ∧ s.reg .l = s.l ∧
      s.reg .a = s.a) ∧
    -- a register written: that field and no other
    (s.setReg .b b = { s with b := b } ∧ s.setReg .c b = { s with c := b } ∧ s.setReg .d b = { s with d := b } ∧
      s.setReg .e b = { s with e := b } ∧ s.setReg .h b = { s with h := b } ∧ s.setReg .l b = { s with l := b } ∧
      s.setReg .a b = { s with a := b }) ∧
    -- an operand location, an accumulator source, a condition
    ((∀ r, s.readLoc (.reg r) = s.reg r) ∧ s.readLoc .atHL = s.readByte s.hl ∧
      (∀ l, s.source (.loc l) = s.readLoc l) ∧ s.source (.imm b) = b ∧ ∀ cc, s.cond cc = true ↔ condHolds cc s) ∧
    -- the codes of R82, R83, R85, in the order of their names
    ([Loc.reg .b, .reg .c, .reg .d, .reg .e, .reg .h, .reg .l, .atHL, .reg .a].map Loc.code =
        [0b000#3, 0b001#3, 0b010#3, 0b011#3, 0b100#3, 0b101#3, 0b110#3, 0b111#3] ∧
      (∀ r, (Loc.reg r).code = r.code) ∧
      [Pair.bc, .de, .hl, .sp].map Pair.code = [0b00#2, 0b01#2, 0b10#2, 0b11#2] ∧
      [StackPair.bc, .de, .hl, .af].map StackPair.code = [0b00#2, 0b01#2, 0b10#2, 0b11#2] ∧
      [Cond.nz, .z, .nc, .c].map Cond.code = [0b00#2, 0b01#2, 0b10#2, 0b11#2]) ∧
    -- a pair is its halves
    (s.bc.toNat = 256 * s.b.toNat + s.c.toNat ∧ s.de.toNat = 256 * s.d.toNat + s.e.toNat ∧
      s.hl.toNat = 256 * s.h.toNat + s.l.toNat ∧
      (s.stackPair .af).toNat = 256 * s.a.toNat + (s.f &&& 0xF0#8).toNat) ∧
    -- a pair read, in either group
    (s.pair .bc = s.bc ∧ s.pair .de = s.de ∧ s.pair .hl = s.hl ∧ s.pair .sp = s.sp ∧
      s.stackPair .bc = s.bc ∧ s.stackPair .de = s.de ∧ s.stackPair .hl = s.hl) ∧
    -- a half written shows in the pair
    ((s.setReg .b b).bc.toNat = 256 * b.toNat + s.c.toNat ∧ (s.setReg .c b).bc.toNat = 256 * s.b.toNat + b.toNat ∧
      (s.setReg .d b).de.toNat = 256 * b.toNat + s.e.toNat ∧ (s.setReg .e b).de.toNat = 256 * s.d.toNat + b.toNat ∧
      (s.setReg .h b).hl.toNat = 256 * b.toNat + s.l.toNat ∧ (s.setReg .l b).hl.toNat = 256 * s.h.toNat + b.toNat ∧
      ((s.setReg .a b).stackPair .af).toNat = 256 * b.toNat + (s.f &&& 0xF0#8).toNat) ∧
    -- a pair written: both halves, or SP, and no other field
    (s.setPair .bc v = { s with b := high v, c := low v } ∧ s.setPair .de v = { s with d := high v, e := low v } ∧
      s.setPair .hl v = { s with h := high v, l := low v } ∧ s.setPair .sp v = { s with sp := v } ∧
      s.setStackPair .bc v = s.setPair .bc v ∧ s.setStackPair .de v = s.setPair .de v ∧
      s.setStackPair .hl v = s.setPair .hl v ∧
      s.setStackPair .af v = { s with a := high v, f := low v &&& 0xF0#8 }) ∧
    -- the flags are bits of F, read, composed, and loaded from the stack
    (s.fZ = decide (s.f.toNat / 128 % 2 = 1) ∧ s.fN = decide (s.f.toNat / 64 % 2 = 1) ∧
      s.fH = decide (s.f.toNat / 32 % 2 = 1) ∧ s.fC = decide (s.f.toNat / 16 % 2 = 1) ∧
      s.f.toNat = 128 * s.fZ.toNat + 64 * s.fN.toNat + 32 * s.fH.toNat + 16 * s.fC.toNat + s.f.toNat % 16 ∧
      (∀ z n h c : Bool, (flagByte z n h c).toNat = 128 * z.toNat + 64 * n.toNat + 32 * h.toNat + 16 * c.toNat) ∧
      ∃ t, exec .pop_AF s = .next t ∧
        128 * t.fZ.toNat + 64 * t.fN.toNat + 32 * t.fH.toNat + 16 * t.fC.toNat =
          (s.readByte s.sp).toNat / 16 * 16)

/-- The cycle counter (60_exceptions.md R319): an instruction adds its cost in the table of R88 and R94, taken or not,
which is 1 to 6; a halted step 1; a delivery 0 (decision D5, log 7); the counter is what the host reads. The table's
ground is "general knowledge, unaudited" (log 17). -/
def Obligations.EveryStepChargesItsCost : Prop :=
  (∀ (i : Instr) (s t : State), exec i s = .next t →
    t.cycles = s.cycles + Config.tableCost (encode i) (taken i s) ∧
      1 ≤ Config.tableCost (encode i) (taken i s) ∧ Config.tableCost (encode i) (taken i s) ≤ 6) ∧
  (∀ (s t : State) (v : Word), boundary s = .deliver v → step s = .next t → t.cycles = s.cycles) ∧
  (∀ s t : State, boundary s = .halted → step s = .next t → t.cycles = s.cycles + 1) ∧
  (∀ s : State, s.cycles < 2 ^ 64 → s.cycleCount.toNat = s.cycles) ∧
  State.reset.cycles = 0

/-- PC is assigned exactly once (10_state.md R24): a sequential instruction, and a conditional transfer that is not
taken, goes to PC + length; a control transfer assigns its target and never also advances. Where the stack is a
device, the target of a return takes its two bytes in the order of the spec's decision D12 (log 14). -/
def Obligations.ProgramCounterIsAssignedOnce : Prop :=
  ∀ (i : Instr) (s t : State), exec i s = .next t →
    t.pc = pcAfter i.form s (s.pc + BitVec.ofNat 16 (encode i).length)

/-- IME (R30): set by `EI` and `RETI`, cleared by `DI` and by delivery, changed by nothing else. -/
def Obligations.OnlyNamedInstructionsWriteIme : Prop :=
  (∀ (i : Instr) (s t : State), exec i s = .next t →
    t.ime = if i.form = .ei ∨ i.form = .reti then true else if i.form = .di then false else s.ime) ∧
  (∀ s t : State, step s = .next t →
    (∀ v, boundary s = .deliver v → t.ime = false) ∧ (boundary s = .halted → t.ime = s.ime))

/-- `halted` (R29): set by `HALT` only, cleared by delivery and by `reset()` only; while it is 1 no register changes. -/
def Obligations.OnlyHaltSetsHalted : Prop :=
  (∀ (i : Instr) (s t : State), exec i s = .next t → t.halted = if i.form = .halt then true else s.halted) ∧
  (∀ s t : State, step s = .next t →
    (∀ v, boundary s = .deliver v → t.halted = false) ∧
      (boundary s = .halted → t = { s with cycles := s.cycles + 1 })) ∧
  ∀ s : State, s.resetCore.halted = false

/-- No instruction reads `cycles`, `halted`, `pending` or IME (10_state.md R36, derived there): started with other
values of the four, it does the same to every register and to memory, and charges the same. Where the instruction reads
a device, this compares two runs under the model's choice that a device answers by the accesses it has seen and by
nothing else, such as the time (DESIGN CHOICE, log 2). -/
def Obligations.NoInstructionReadsControlState : Prop :=
  ∀ (i : Instr) (s t : State) (ime halted : Bool) (pending : Option Word) (cycles : Nat), exec i s = .next t →
    ∃ u, exec i { s with ime := ime, halted := halted, pending := pending, cycles := cycles } = .next u ∧
      { u with ime := t.ime, halted := t.halted, pending := t.pending, cycles := t.cycles } = t ∧
      t.pending = s.pending ∧ u.pending = pending ∧ u.cycles + s.cycles = t.cycles + cycles

/-- The core makes exactly the accesses listed by `stepAccesses`, once each (20_memory.md R55, R56, R58; the order is
decisions D12, D13, log 14): after any step, storage is what the listed writes to RAM leave, made in order, and devices
have seen the listed accesses to their addresses. No step changes the map, or a byte of storage outside RAM. -/
def Obligations.MemoryChangesAreTheListedWrites : Prop :=
  let replay := fun (s : State) (accesses : List Access) =>
    (accesses.filterMap (ramStore s)).foldl (fun m w => Memory.write m w.1.toNat w.2) s.mem
  (∀ (i : Instr) (s t : State), exec i s = .next t →
    t.mem = replay s (dataAccesses i.form s) ∧ t.bus = seenBy s (dataAccesses i.form s)) ∧
  (∀ s t : State, step s = .next t →
    t.mem = replay s (stepAccesses s) ∧ t.bus = seenBy s (stepAccesses s) ∧ t.map = s.map ∧
      ∀ x : Word, s.kind x ≠ .ram → t.stored x = s.stored x)

/-- The core reads exactly the bytes listed (R55, R56, R58): with any other storage that agrees on the instruction's
listed data reads, it leaves the same registers and makes the same accesses. Where it reads a device, this compares two
runs under the model's choice that a device answers by the accesses it has seen and by nothing else (DESIGN CHOICE,
log 2). -/
def Obligations.ResultsDependOnTheListedReadsOnly : Prop :=
  ∀ (i : Instr) (s t : State) (m : Memory),
    (∀ x ∈ dataReads s i.form, ({ s with mem := m } : State).readByte x = s.readByte x) → exec i s = .next t →
    ∃ u, exec i { s with mem := m } = .next u ∧ { u with mem := t.mem } = t ∧
      dataAccesses i.form { s with mem := m } = dataAccesses i.form s

-- 8-bit loads

/-- `LD r,r'`, `LD r,d8`, `LD r,(HL)` (41_load8.md R140, R141, R142). -/
def Obligations.RegisterLoadsCopy : Prop :=
  ∀ (i : Instr) (dst : Reg8) (s : State),
    (∀ r, i.form = .ldRegReg dst r → Runs i s [0b01#2 ++ dst.code ++ r.code]
      { s.setReg dst (s.reg r) with pc := s.pc + 1#16, cycles := s.cycles + 1 } []) ∧
    (∀ d8, i.form = .ldRegImm dst d8 → Runs i s [0b00#2 ++ dst.code ++ 0b110#3, d8]
      { s.setReg dst d8 with pc := s.pc + 2#16, cycles := s.cycles + 2 } []) ∧
    (i.form = .ldRegAtHL dst → Runs i s [0b01#2 ++ dst.code ++ 0b110#3]
      { s.setReg dst (s.readByte s.hl) with pc := s.pc + 1#16, cycles := s.cycles + 2 } [.read s.hl])

/-- `LD (HL),r` and `LD (HL),d8` (R143, R144): one byte stored, at HL. -/
def Obligations.StoresThroughHL : Prop :=
  ∀ (i : Instr) (s : State),
    (∀ r, i.form = .ldAtHLReg r → Runs i s [0b01110#5 ++ r.code]
      { s with pc := s.pc + 1#16, cycles := s.cycles + 2 } [.write s.hl (s.reg r)]) ∧
    (∀ d8, i.form = .ldAtHLImm d8 → Runs i s [0x36#8, d8]
      { s with pc := s.pc + 2#16, cycles := s.cycles + 3 } [.write s.hl d8])

/-- `LD A,(BC)`, `LD A,(DE)`, `LD A,(a16)`, `LDH A,(a8)`, `LD A,(C)` (R145, R146, R149, R151, R153). -/
def Obligations.AccumulatorLoadsFromMemory : Prop :=
  ∀ (i : Instr) (s : State),
    (i.form = .ldAAtBC → Runs i s [0x0A#8]
      { s with a := s.readByte s.bc, pc := s.pc + 1#16, cycles := s.cycles + 2 }
        [.read s.bc]) ∧
    (i.form = .ldAAtDE → Runs i s [0x1A#8]
      { s with a := s.readByte s.de, pc := s.pc + 1#16, cycles := s.cycles + 2 }
        [.read s.de]) ∧
    (∀ a16, i.form = .ldAAtAbs a16 → Runs i s (0xFA#8 :: immBytes a16)
      { s with a := s.readByte a16, pc := s.pc + 3#16, cycles := s.cycles + 4 }
        [.read a16]) ∧
    (∀ a8, i.form = .ldhAAt a8 → Runs i s [0xF0#8, a8]
      { s with a := s.readByte (BitVec.ofNat 16 (0xFF00 + a8.toNat)), pc := s.pc + 2#16, cycles := s.cycles + 3 }
        [.read (BitVec.ofNat 16 (0xFF00 + a8.toNat))]) ∧
    (i.form = .ldAAtC → Runs i s [0xF2#8]
      { s with a := s.readByte (BitVec.ofNat 16 (0xFF00 + s.c.toNat)), pc := s.pc + 1#16, cycles := s.cycles + 2 }
        [.read (BitVec.ofNat 16 (0xFF00 + s.c.toNat))])

/-- `LD (BC),A`, `LD (DE),A`, `LD (a16),A`, `LDH (a8),A`, `LD (C),A` (R147, R148, R150, R152, R154). -/
def Obligations.AccumulatorStoresToMemory : Prop :=
  ∀ (i : Instr) (s : State),
    (i.form = .ldAtBCA → Runs i s [0x02#8]
      { s with pc := s.pc + 1#16, cycles := s.cycles + 2 } [.write s.bc s.a]) ∧
    (i.form = .ldAtDEA → Runs i s [0x12#8]
      { s with pc := s.pc + 1#16, cycles := s.cycles + 2 } [.write s.de s.a]) ∧
    (∀ a16, i.form = .ldAtAbsA a16 → Runs i s (0xEA#8 :: immBytes a16)
      { s with pc := s.pc + 3#16, cycles := s.cycles + 4 } [.write a16 s.a]) ∧
    (∀ a8, i.form = .ldhAtA a8 → Runs i s [0xE0#8, a8]
      { s with pc := s.pc + 2#16, cycles := s.cycles + 3 } [.write (BitVec.ofNat 16 (0xFF00 + a8.toNat)) s.a]) ∧
    (i.form = .ldAtCA → Runs i s [0xE2#8]
      { s with pc := s.pc + 1#16, cycles := s.cycles + 2 } [.write (BitVec.ofNat 16 (0xFF00 + s.c.toNat)) s.a])

/-- `LD (HL+),A`, `LD (HL-),A`, `LD A,(HL+)`, `LD A,(HL-)` (R155 to R158): the access is at the old HL, then HL moves by
one modulo 2^16. -/
def Obligations.PostMovingLoads : Prop :=
  ∀ (i : Instr) (s : State),
    (i.form = .ldAtHLIncA → Runs i s [0x22#8]
      { s with
        h := high (s.hl + 1#16), l := low (s.hl + 1#16), pc := s.pc + 1#16,
        cycles := s.cycles + 2 } [.write s.hl s.a]) ∧
    (i.form = .ldAtHLDecA → Runs i s [0x32#8]
      { s with
        h := high (s.hl - 1#16), l := low (s.hl - 1#16), pc := s.pc + 1#16,
        cycles := s.cycles + 2 } [.write s.hl s.a]) ∧
    (i.form = .ldAAtHLInc → Runs i s [0x2A#8]
      { s with
        a := s.readByte s.hl, h := high (s.hl + 1#16), l := low (s.hl + 1#16), pc := s.pc + 1#16,
        cycles := s.cycles + 2 } [.read s.hl]) ∧
    (i.form = .ldAAtHLDec → Runs i s [0x3A#8]
      { s with
        a := s.readByte s.hl, h := high (s.hl - 1#16), l := low (s.hl - 1#16), pc := s.pc + 1#16,
        cycles := s.cycles + 2 } [.read s.hl])

-- 16-bit loads and the stack

/-- `LD rr,d16`, `LD (a16),SP`, `LD SP,HL` (42_load16_stack.md R170, R171, R172). The order in which a device would see
the two bytes of SP is the spec's decision D12 (log 14). -/
def Obligations.SixteenBitLoads : Prop :=
  ∀ (i : Instr) (s : State),
    (∀ p d16, i.form = .ldPairImm p d16 → Runs i s ((0b00#2 ++ p.code ++ 0b0001#4) :: immBytes d16)
      { s.setPair p d16 with pc := s.pc + 3#16, cycles := s.cycles + 3 } []) ∧
    (∀ a16, i.form = .ldAtAbsSP a16 → Runs i s (0x08#8 :: immBytes a16)
      { s with pc := s.pc + 3#16, cycles := s.cycles + 5 } (wordStores a16 s.sp)) ∧
    (i.form = .ldSPHL → Runs i s [0xF9#8]
      { s with sp := s.hl, pc := s.pc + 1#16, cycles := s.cycles + 2 } [])

/-- `LD HL,SP+e8` and `ADD SP,e8` (42_load16_stack.md R173, 44_alu16.md R223, 40_alu_primitives.md R117): the signed sum
modulo 2^16; Z = N = 0; H and C of the unsigned addition of the low byte of SP and the raw byte. -/
def Obligations.StackPointerPlusDisplacement : Prop :=
  ∀ (i : Instr) (s : State) (e8 : Byte),
    let sum : Word := BitVec.ofInt 16 (s.sp.toNat + e8.toInt)
    let flags := flagByte false false (decide (s.sp.toNat % 16 + e8.toNat % 16 > 15))
      (decide (s.sp.toNat % 256 + e8.toNat > 255))
    (i.form = .ldHLSPPlus e8 → Runs i s [0xF8#8, e8]
      { s with h := high sum, l := low sum, f := flags, pc := s.pc + 2#16, cycles := s.cycles + 3 } []) ∧
    (i.form = .addSP e8 → Runs i s [0xE8#8, e8]
      { s with sp := sum, f := flags, pc := s.pc + 2#16, cycles := s.cycles + 4 } [])

/-- `PUSH rr` (R174): SP first drops by 2, then the low register is stored at the new SP and the high one above it;
`PUSH AF` stores F with its low nibble zero. The order in which a device would see the two bytes is the spec's decision
D12 (log 14). -/
def Obligations.PushStoresThePair : Prop :=
  ∀ (i : Instr) (s : State) (q : StackPair), i.form = .push q →
    let halves : Byte × Byte :=
      match q with
      | .bc => (s.b, s.c)
      | .de => (s.d, s.e)
      | .hl => (s.h, s.l)
      | .af => (s.a, s.f &&& 0xF0#8)
    Runs i s [0b11#2 ++ q.code ++ 0b0101#4]
      { s with sp := s.sp - 2#16, pc := s.pc + 1#16, cycles := s.cycles + 4 }
      [.write (s.sp - 2#16) halves.2, .write (s.sp - 1#16) halves.1]

/-- `POP rr` and `POP AF` (R175, R176): the low register from the old SP, the high one from old SP + 1; `POP AF` masks
the low nibble of F. The order in which a device would see the two reads is the spec's decision D12 (log 14). -/
def Obligations.PopLoadsThePair : Prop :=
  ∀ (i : Instr) (s : State) (q : StackPair), i.form = .pop q →
    let lo := s.readByte s.sp
    let hi := readNext s [.read s.sp] (s.sp + 1#16)
    let loaded : State :=
      match q with
      | .bc => { s with b := hi, c := lo }
      | .de => { s with d := hi, e := lo }
      | .hl => { s with h := hi, l := lo }
      | .af => { s with a := hi, f := lo &&& 0xF0#8 }
    Runs i s [0b11#2 ++ q.code ++ 0b0001#4]
      { loaded with sp := s.sp + 2#16, pc := s.pc + 1#16, cycles := s.cycles + 3 } (wordReads s.sp)

-- 8-bit arithmetic and logic

/-- `ADD A,s` and `ADC A,s` (43_alu8.md R191, R192; add8 of 40_alu_primitives.md R111). -/
def Obligations.AddAndAdc : Prop :=
  ∀ (i : Instr) (s : State) (src : Src),
    let a := s.a.toNat
    let v := (s.source src).toNat
    (i.form = .alu .add src → Accumulates i s 0b000#3 src (addResult a v 0) (addFlags a v 0)) ∧
    (i.form = .alu .adc src →
      Accumulates i s 0b001#3 src (addResult a v s.fC.toNat) (addFlags a v s.fC.toNat))

/-- `SUB A,s`, `SBC A,s`, `CP A,s` (R193, R194, R198; sub8 of R112): CP leaves A alone. -/
def Obligations.SubSbcAndCp : Prop :=
  ∀ (i : Instr) (s : State) (src : Src),
    let a := s.a.toNat
    let v := (s.source src).toNat
    (i.form = .alu .sub src → Accumulates i s 0b010#3 src (subResult a v 0) (subFlags a v 0)) ∧
    (i.form = .alu .sbc src →
      Accumulates i s 0b011#3 src (subResult a v s.fC.toNat) (subFlags a v s.fC.toNat)) ∧
    (i.form = .alu .cp src → Accumulates i s 0b111#3 src s.a (subFlags a v 0))

/-- `AND A,s`, `XOR A,s`, `OR A,s` (R195, R196, R197; R113). -/
def Obligations.AndXorAndOr : Prop :=
  ∀ (i : Instr) (s : State) (src : Src),
    let v := s.source src
    (i.form = .alu .and src →
      Accumulates i s 0b100#3 src (s.a &&& v) (flagByte (decide ((s.a &&& v).toNat = 0)) false true false)) ∧
    (i.form = .alu .xor src →
      Accumulates i s 0b101#3 src (s.a ^^^ v) (flagByte (decide ((s.a ^^^ v).toNat = 0)) false false false)) ∧
    (i.form = .alu .or src →
      Accumulates i s 0b110#3 src (s.a ||| v) (flagByte (decide ((s.a ||| v).toNat = 0)) false false false))

/-- `INC r`, `INC (HL)`, `DEC r`, `DEC (HL)` (R199 to R202; inc8, dec8 of R114, R115): C is left alone. -/
def Obligations.IncrementAndDecrement : Prop :=
  ∀ (i : Instr) (s : State) (l : Loc),
    let v := (s.readLoc l).toNat
    (i.form = .incLoc l →
      Runs i s [0b00#2 ++ l.code ++ 0b100#3]
        { (atLoc l (BitVec.ofNat 8 (v + 1)) s).1 with
          f := flagByte (decide (v = 0xFF)) false (decide (v % 16 = 15)) s.fC, pc := s.pc + 1#16,
          cycles := s.cycles + kindCost l 1 3 }
        (atLoc l (BitVec.ofNat 8 (v + 1)) s).2) ∧
    (i.form = .decLoc l →
      Runs i s [0b00#2 ++ l.code ++ 0b101#3]
        { (atLoc l (BitVec.ofInt 8 ((v : Int) - 1)) s).1 with
          f := flagByte (decide (v = 1)) true (decide (v % 16 = 0)) s.fC, pc := s.pc + 1#16,
          cycles := s.cycles + kindCost l 1 3 }
        (atLoc l (BitVec.ofInt 8 ((v : Int) - 1)) s).2)

/-- `DAA` (R203; daa8 of R126). -/
def Obligations.DecimalAdjust : Prop :=
  ∀ (i : Instr) (s : State), i.form = .daa →
    let a := s.a.toNat
    let low := s.fH = true ∨ (s.fN = false ∧ a % 16 > 9)
    let high := s.fC = true ∨ (s.fN = false ∧ a > 0x99)
    ∃ corr : Nat, ∃ result : Byte, ∃ carry : Bool,
      (low ∧ high → corr = 0x66) ∧ (low ∧ ¬high → corr = 0x06) ∧ (¬low ∧ high → corr = 0x60) ∧
      (¬low ∧ ¬high → corr = 0) ∧ (carry = true ↔ high) ∧
      result = (if s.fN then BitVec.ofInt 8 ((a : Int) - corr) else BitVec.ofNat 8 (a + corr)) ∧
      Runs i s [0x27#8]
        { s with
          a := result, f := flagByte (decide (result.toNat = 0)) s.fN false carry, pc := s.pc + 1#16,
          cycles := s.cycles + 1 } []

/-- After `ADD A,B` or `ADC A,B` on two packed-BCD bytes, `DAA` leaves the packed-BCD sum in A and the decimal carry in
C (R203, "corner cases"). -/
def Obligations.AddThenDaaIsDecimalAddition : Prop :=
  ∀ (s t : State) (tensA unitsA tensB unitsB : Fin 10), s.a = bcd tensA unitsA → s.b = bcd tensB unitsB →
    ∀ cin : Nat, (exec .add_A_B s = .next t ∧ cin = 0) ∨ (exec .adc_A_B s = .next t ∧ cin = s.fC.toNat) →
    ∃ u, exec .daa t = .next u ∧
      let sum := 10 * tensA.val + unitsA.val + (10 * tensB.val + unitsB.val) + cin
      u.a.toNat = 16 * (sum / 10 % 10) + sum % 10 ∧ (u.fC = true ↔ 100 ≤ sum) ∧ (u.fZ = true ↔ sum % 100 = 0)

/-- `CPL`, `SCF`, `CCF` (R204, R205, R206). -/
def Obligations.ComplementAndCarryFlag : Prop :=
  ∀ (i : Instr) (s : State),
    (i.form = .cpl → Runs i s [0x2F#8]
      { s with
        a := BitVec.ofNat 8 (255 - s.a.toNat), f := flagByte s.fZ true true s.fC, pc := s.pc + 1#16,
        cycles := s.cycles + 1 } []) ∧
    (i.form = .scf → Runs i s [0x37#8]
      { s with f := flagByte s.fZ false false true, pc := s.pc + 1#16, cycles := s.cycles + 1 } []) ∧
    (i.form = .ccf → Runs i s [0x3F#8]
      { s with f := flagByte s.fZ false false (!s.fC), pc := s.pc + 1#16, cycles := s.cycles + 1 } [])

-- 16-bit arithmetic

/-- `ADD HL,rr` (44_alu16.md R220; add16 of R116): H from bit 11, C from bit 15, Z unaffected. -/
def Obligations.AddToHL : Prop :=
  ∀ (i : Instr) (s : State) (p : Pair), i.form = .addHL p →
    let x := s.hl.toNat
    let y := (s.pair p).toNat
    Runs i s [0b00#2 ++ p.code ++ 0b1001#4]
      { s with
        h := BitVec.ofNat 8 ((x + y) % 65536 / 256), l := BitVec.ofNat 8 ((x + y) % 256),
        f := flagByte s.fZ false (decide (x % 4096 + y % 4096 > 4095)) (decide (x + y > 65535)), pc := s.pc + 1#16,
        cycles := s.cycles + 2 } []

/-- `INC rr` and `DEC rr` (R221, R222): modulo 2^16, no flag. -/
def Obligations.IncrementAndDecrementPair : Prop :=
  ∀ (i : Instr) (s : State) (p : Pair),
    (i.form = .incPair p → Runs i s [0b00#2 ++ p.code ++ 0b0011#4]
      { s.setPair p (BitVec.ofNat 16 ((s.pair p).toNat + 1)) with pc := s.pc + 1#16, cycles := s.cycles + 2 } []) ∧
    (i.form = .decPair p → Runs i s [0b00#2 ++ p.code ++ 0b1011#4]
      { s.setPair p (BitVec.ofNat 16 ((s.pair p).toNat + 65535)) with pc := s.pc + 1#16, cycles := s.cycles + 2 } [])

-- Rotates, shifts, bits

/-- `RLCA`, `RRCA`, `RLA`, `RRA` (45_rotate_shift_bit.md R230 to R233; R127): Z, N, H cleared whatever the result. -/
def Obligations.AccumulatorRotates : Prop :=
  ∀ (i : Instr) (s : State),
    let cin : Byte := if s.fC then 1#8 else 0#8
    let rotates := fun (bytes : List Byte) (result : Byte) (carry : Bool) =>
      Runs i s bytes
        { s with a := result, f := flagByte false false false carry, pc := s.pc + 1#16, cycles := s.cycles + 1 } []
    (i.form = .rlca → rotates [0x07#8] (s.a <<< 1 ||| s.a >>> 7) (decide (s.a.toNat ≥ 128))) ∧
    (i.form = .rrca → rotates [0x0F#8] (s.a >>> 1 ||| (s.a &&& 1#8) <<< 7) (decide (s.a.toNat % 2 = 1))) ∧
    (i.form = .rla → rotates [0x17#8] (s.a <<< 1 ||| cin) (decide (s.a.toNat ≥ 128))) ∧
    (i.form = .rra → rotates [0x1F#8] (s.a >>> 1 ||| cin <<< 7) (decide (s.a.toNat % 2 = 1)))

/-- `RLC`, `RRC`, `RL`, `RR` on every location (R235 to R238; R118 to R121). -/
def Obligations.ExtendedRotates : Prop :=
  ∀ (i : Instr) (s : State) (l : Loc),
    let v := s.readLoc l
    let cin : Byte := if s.fC then 1#8 else 0#8
    let rotates := fun (ooo : BitVec 3) (result : Byte) (carry : Bool) =>
      WritesBack i s (0b00#2 ++ ooo ++ l.code) l result (shiftedFlags result carry)
    (i.form = .rot .rlc l → rotates 0b000#3 (v <<< 1 ||| v >>> 7) (decide (v.toNat ≥ 128))) ∧
    (i.form = .rot .rrc l → rotates 0b001#3 (v >>> 1 ||| (v &&& 1#8) <<< 7) (decide (v.toNat % 2 = 1))) ∧
    (i.form = .rot .rl l → rotates 0b010#3 (v <<< 1 ||| cin) (decide (v.toNat ≥ 128))) ∧
    (i.form = .rot .rr l → rotates 0b011#3 (v >>> 1 ||| cin <<< 7) (decide (v.toNat % 2 = 1)))

/-- `SLA`, `SRA`, `SWAP`, `SRL` on every location (R239 to R242; R122 to R125). -/
def Obligations.ExtendedShifts : Prop :=
  ∀ (i : Instr) (s : State) (l : Loc),
    let v := s.readLoc l
    let shifts := fun (ooo : BitVec 3) (result : Byte) (carry : Bool) =>
      WritesBack i s (0b00#2 ++ ooo ++ l.code) l result (shiftedFlags result carry)
    (i.form = .rot .sla l → shifts 0b100#3 (BitVec.ofNat 8 (2 * v.toNat)) (decide (v.toNat ≥ 128))) ∧
    (i.form = .rot .sra l → shifts 0b101#3 (v >>> 1 ||| (v &&& 0x80#8)) (decide (v.toNat % 2 = 1))) ∧
    (i.form = .rot .swap l → shifts 0b110#3 (BitVec.ofNat 8 (16 * (v.toNat % 16) + v.toNat / 16)) false) ∧
    (i.form = .rot .srl l → shifts 0b111#3 (BitVec.ofNat 8 (v.toNat / 2)) (decide (v.toNat % 2 = 1)))

/-- `BIT n`, `RES n`, `SET n` on every location (R243, R244, R245): BIT writes nothing back and leaves C; RES and SET
change no flag. -/
def Obligations.BitTestResetAndSet : Prop :=
  ∀ (i : Instr) (s : State) (n : BitVec 3) (l : Loc),
    let v := s.readLoc l
    let mask : Byte := BitVec.ofNat 8 (2 ^ n.toNat)
    (i.form = .bit n l → Runs i s [0xCB#8, 0b01#2 ++ n ++ l.code]
      { s with
        f := flagByte (decide (v.toNat / 2 ^ n.toNat % 2 = 0)) false true s.fC, pc := s.pc + 2#16,
        cycles := s.cycles + kindCost l 2 3 } (locRead l s)) ∧
    (i.form = .res n l → Runs i s [0xCB#8, 0b10#2 ++ n ++ l.code]
      { (atLoc l (v &&& ~~~mask) s).1 with pc := s.pc + 2#16, cycles := s.cycles + kindCost l 2 4 }
      (atLoc l (v &&& ~~~mask) s).2) ∧
    (i.form = .set n l → Runs i s [0xCB#8, 0b11#2 ++ n ++ l.code]
      { (atLoc l (v ||| mask) s).1 with pc := s.pc + 2#16, cycles := s.cycles + kindCost l 2 4 }
      (atLoc l (v ||| mask) s).2)

/-- `RR` then `RL` on one register or RAM byte restores the byte and the carry; `RLC` then `RRC` restores the byte and
leaves its bit 7 in C (95_test_vectors.md S2 as 90_conflicts.md C3 reads it). -/
def Obligations.RotatesUndoEachOther : Prop :=
  ∀ (i j : Instr) (l : Loc) (s t u : State), exec i s = .next t → exec j t = .next u →
    (l = .atHL → s.kind s.hl = .ram) →
    (i.form = .rot .rr l → j.form = .rot .rl l → u.readLoc l = s.readLoc l ∧ u.fC = s.fC) ∧
    (i.form = .rot .rlc l → j.form = .rot .rrc l →
      u.readLoc l = s.readLoc l ∧ u.fC = (s.readLoc l).getLsbD 7)

-- Control transfer

/-- `JP a16`, `JP cc,a16`, `JP HL`, `JR e8`, `JR cc,e8` (46_control.md R260 to R265): the displacement is signed and
relative to the next instruction. -/
def Obligations.Jumps : Prop :=
  ∀ (i : Instr) (s : State),
    (∀ a16, i.form = .jp a16 → Runs i s (0xC3#8 :: immBytes a16)
      { s with pc := a16, cycles := s.cycles + 4 } []) ∧
    (i.form = .jpHL → Runs i s [0xE9#8] { s with pc := s.hl, cycles := s.cycles + 1 } []) ∧
    (∀ cc a16, i.form = .jpIf cc a16 →
      (condHolds cc s → Runs i s ((0b110#3 ++ cc.code ++ 0b010#3) :: immBytes a16)
        { s with pc := a16, cycles := s.cycles + 4 } []) ∧
      (¬condHolds cc s → Runs i s ((0b110#3 ++ cc.code ++ 0b010#3) :: immBytes a16)
        { s with pc := s.pc + 3#16, cycles := s.cycles + 3 } [])) ∧
    (∀ e8, i.form = .jr e8 → Runs i s [0x18#8, e8]
      { s with pc := BitVec.ofInt 16 (s.pc.toNat + 2 + e8.toInt), cycles := s.cycles + 3 } []) ∧
    (∀ cc e8, i.form = .jrIf cc e8 →
      (condHolds cc s → Runs i s [0b001#3 ++ cc.code ++ 0b000#3, e8]
        { s with pc := BitVec.ofInt 16 (s.pc.toNat + 2 + e8.toInt), cycles := s.cycles + 3 } []) ∧
      (¬condHolds cc s → Runs i s [0b001#3 ++ cc.code ++ 0b000#3, e8]
        { s with pc := s.pc + 2#16, cycles := s.cycles + 2 } []))

/-- `CALL a16`, `CALL cc,a16`, `RST t` (R266, R267, R271): the address of the next instruction is pushed; a call not
taken touches neither SP nor memory. The order in which a device would see the two stack bytes is the spec's decision
D12 (log 14). -/
def Obligations.CallsAndRestarts : Prop :=
  ∀ (i : Instr) (s : State),
    (∀ a16, i.form = .call a16 → Runs i s (0xCD#8 :: immBytes a16)
      { s with sp := s.sp - 2#16, pc := a16, cycles := s.cycles + 6 } (wordStores (s.sp - 2#16) (s.pc + 3#16))) ∧
    (∀ cc a16, i.form = .callIf cc a16 →
      (condHolds cc s → Runs i s ((0b110#3 ++ cc.code ++ 0b100#3) :: immBytes a16)
        { s with sp := s.sp - 2#16, pc := a16, cycles := s.cycles + 6 } (wordStores (s.sp - 2#16) (s.pc + 3#16))) ∧
      (¬condHolds cc s → Runs i s ((0b110#3 ++ cc.code ++ 0b100#3) :: immBytes a16)
        { s with pc := s.pc + 3#16, cycles := s.cycles + 3 } [])) ∧
    (∀ t, i.form = .rst t → Runs i s [0b11#2 ++ t ++ 0b111#3]
      { s with sp := s.sp - 2#16, pc := BitVec.ofNat 16 (8 * t.toNat), cycles := s.cycles + 4 }
      (wordStores (s.sp - 2#16) (s.pc + 1#16)))

/-- `RET`, `RET cc`, `RETI` (R268, R269, R270): the popped word is the target; `RETI` sets IME in the same step, so that
a request pending at the following boundary is delivered there, as a step of its own (decision D4, log 16). The order in
which a device would see the two reads is the spec's decision D12 (log 14). -/
def Obligations.Returns : Prop :=
  ∀ (i : Instr) (s : State),
    (i.form = .ret → Runs i s [0xC9#8]
      { s with pc := wordAt s s.sp, sp := s.sp + 2#16, cycles := s.cycles + 4 } (wordReads s.sp)) ∧
    (∀ cc, i.form = .retIf cc →
      (condHolds cc s → Runs i s [0b110#3 ++ cc.code ++ 0b000#3]
        { s with pc := wordAt s s.sp, sp := s.sp + 2#16, cycles := s.cycles + 5 } (wordReads s.sp)) ∧
      (¬condHolds cc s → Runs i s [0b110#3 ++ cc.code ++ 0b000#3]
        { s with pc := s.pc + 1#16, cycles := s.cycles + 2 } [])) ∧
    (i.form = .reti → Runs i s [0xD9#8]
      { s with pc := wordAt s s.sp, sp := s.sp + 2#16, ime := true, cycles := s.cycles + 4 } (wordReads s.sp) ∧
      ∀ t v, exec i s = .next t → s.pending = some v → t.cycles < Config.cycleLimit → boundary t = .deliver v)

-- System instructions

/-- `NOP` and `DI` (47_misc_control.md R280, R283): after `DI` nothing is delivered at the next boundary, and the slot
is not cleared. -/
def Obligations.NopAndDi : Prop :=
  ∀ (i : Instr) (s : State),
    (i.form = .nop → Runs i s [0x00#8] { s with pc := s.pc + 1#16, cycles := s.cycles + 1 } []) ∧
    (i.form = .di → Runs i s [0xF3#8] { s with ime := false, pc := s.pc + 1#16, cycles := s.cycles + 1 } [] ∧
      ∀ t v, exec i s = .next t → boundary t ≠ .deliver v)

/-- `HALT`, `STOP`, `EI` (R281, R282, R284). That `STOP` is a two-byte no-operation and that `EI` acts at once are the
spec's decisions D10 and D7 (logs 4, 5); `HALT` shows no halt bug by D8 (log 6). -/
def Obligations.HaltStopAndEi : Prop :=
  ∀ (i : Instr) (s : State),
    (i.form = .halt → Runs i s [0x76#8]
      { s with halted := true, pc := s.pc + 1#16, cycles := s.cycles + 1 } []) ∧
    (∀ ignored, i.form = .stop ignored → Runs i s [0x10#8, ignored]
      { s with pc := s.pc + 2#16, cycles := s.cycles + 1 } []) ∧
    (i.form = .ei → Runs i s [0xFB#8]
      { s with ime := true, pc := s.pc + 1#16, cycles := s.cycles + 1 } [])

/-- `PREFIX CB` (R285): with the byte after it, it is the one extended instruction that the byte selects, of length 2,
at that instruction's cost of 2, 3 or 4, and it always completes. That the row is a constructor which carries that byte,
is not well formed, and has the extended instruction's encoding and meaning is the model's choice (DEDUCED, log 11). -/
def Obligations.PrefixIsTheExtendedInstruction : Prop :=
  ∀ (ext : Byte) (s : State),
    (Instr.prefix_CB ext).wellFormed = false ∧ (decodeExtended ext).wellFormed = true ∧
    encode (.prefix_CB ext) = encode (decodeExtended ext) ∧
    decode [0xCB#8, ext] = .ok (decodeExtended ext, []) ∧
    exec (.prefix_CB ext) s = exec (decodeExtended ext) s ∧
    ∃ t, exec (.prefix_CB ext) s = .next t ∧ t.pc = s.pc + 2#16 ∧
      (t.cycles = s.cycles + 2 ∨ t.cycles = s.cycles + 3 ∨ t.cycles = s.cycles + 4)
end

