-- ==== Sys2Proof/Laws/Bits.lean ====
section
/-! SUPPORT. Byte-order helpers and the flag byte: their small lemmas. -/

namespace Sys2Proof.Machine

@[simp] theorem hiByte_joinBytes (hi lo : Byte) : hiByte (joinBytes hi lo) = hi := by
  apply BitVec.eq_of_getLsbD_eq
  intro i hlt
  simp only [hiByte, joinBytes, BitVec.getLsbD_extractLsb', BitVec.getLsbD_append, hlt, decide_true, Bool.true_and]
  rw [if_neg (by omega)]
  congr 1
  omega

@[simp] theorem loByte_joinBytes (hi lo : Byte) : loByte (joinBytes hi lo) = lo := by
  apply BitVec.eq_of_getLsbD_eq
  intro i hlt
  simp only [loByte, joinBytes, BitVec.getLsbD_extractLsb', BitVec.getLsbD_append, hlt, decide_true, Bool.true_and]
  rw [if_pos (by omega)]
  congr 1
  omega

@[simp] theorem joinBytes_hi_lo (w : Word) : joinBytes (hiByte w) (loByte w) = w := by
  apply BitVec.eq_of_getLsbD_eq
  intro i hlt
  simp only [hiByte, loByte, joinBytes, BitVec.getLsbD_append, BitVec.getLsbD_extractLsb']
  by_cases h : i < 8
  · simp [h]
  · rw [if_neg h]
    simp only [show i - 8 < 8 by omega, decide_true, Bool.true_and]
    congr 1
    omega

@[simp] theorem flagByte_z (z n h c : Bool) : (flagByte z n h c)[7] = z := by
  cases z <;> cases n <;> cases h <;> cases c <;> rfl

@[simp] theorem flagByte_n (z n h c : Bool) : (flagByte z n h c)[6] = n := by
  cases z <;> cases n <;> cases h <;> cases c <;> rfl

@[simp] theorem flagByte_h (z n h c : Bool) : (flagByte z n h c)[5] = h := by
  cases z <;> cases n <;> cases h <;> cases c <;> rfl

@[simp] theorem flagByte_c (z n h c : Bool) : (flagByte z n h c)[4] = c := by
  cases z <;> cases n <;> cases h <;> cases c <;> rfl

/-- The low nibble of a flag byte is zero (R128). -/
@[simp] theorem flagByte_low (z n h c : Bool) : flagByte z n h c &&& 0x0F#8 = 0#8 := by
  cases z <;> cases n <;> cases h <;> cases c <;> rfl

@[simp] theorem State.setFlags_fZ (u : FlagUpdate) (s : State) : (s.setFlags u).fZ = u.z.getD s.fZ := by
  simp [State.setFlags, State.fZ]

@[simp] theorem State.setFlags_fN (u : FlagUpdate) (s : State) : (s.setFlags u).fN = u.n.getD s.fN := by
  simp [State.setFlags, State.fN]

@[simp] theorem State.setFlags_fH (u : FlagUpdate) (s : State) : (s.setFlags u).fH = u.h.getD s.fH := by
  simp [State.setFlags, State.fH]

@[simp] theorem State.setFlags_fC (u : FlagUpdate) (s : State) : (s.setFlags u).fC = u.c.getD s.fC := by
  simp [State.setFlags, State.fC]

/-- The mask of F's hard-wired bits leaves a zero low nibble. -/
theorem masked_low (v : Byte) : v &&& 0xF0#8 &&& 0x0F#8 = 0#8 := by
  rw [BitVec.and_assoc]
  simp

end Sys2Proof.Machine
end

