-- ==== Sys2Proof/Laws/Costs.lean ====
section
/-! SUPPORT. What the cost table gives each form, said once: the numbers that the rules of files 41 to 47 state. -/

namespace Sys2Proof.Machine

@[simp] theorem costOf_ldRegReg (dst src : Reg8) : costOf (.ldRegReg dst src) = 1 := by cases dst <;> cases src <;> decide
@[simp] theorem costOf_ldRegImm (dst : Reg8) (d8 : Byte) : costOf (.ldRegImm dst d8) = 2 := by
  cases dst <;> simp [costOf, encodeForm, Config.tableCost, Config.gridCell, Config.takenCostRow, Reg8.code]
@[simp] theorem costOf_ldRegAtHL (dst : Reg8) : costOf (.ldRegAtHL dst) = 2 := by cases dst <;> decide
@[simp] theorem costOf_ldAtHLReg (src : Reg8) : costOf (.ldAtHLReg src) = 2 := by cases src <;> decide
@[simp] theorem costOf_ldAtHLImm (d8 : Byte) : costOf (.ldAtHLImm d8) = 3 := by
  simp [costOf, encodeForm, Config.tableCost, Config.gridCell, Config.takenCostRow]
@[simp] theorem costOf_ldAAtBC : costOf .ldAAtBC = 2 := by decide
@[simp] theorem costOf_ldAAtDE : costOf .ldAAtDE = 2 := by decide
@[simp] theorem costOf_ldAtBCA : costOf .ldAtBCA = 2 := by decide
@[simp] theorem costOf_ldAtDEA : costOf .ldAtDEA = 2 := by decide
@[simp] theorem costOf_ldAAtC : costOf .ldAAtC = 2 := by decide
@[simp] theorem costOf_ldAtCA : costOf .ldAtCA = 2 := by decide
@[simp] theorem costOf_ldAtHLIncA : costOf .ldAtHLIncA = 2 := by decide
@[simp] theorem costOf_ldAtHLDecA : costOf .ldAtHLDecA = 2 := by decide
@[simp] theorem costOf_ldAAtHLInc : costOf .ldAAtHLInc = 2 := by decide
@[simp] theorem costOf_ldAAtHLDec : costOf .ldAAtHLDec = 2 := by decide
@[simp] theorem costOf_ldSPHL : costOf .ldSPHL = 2 := by decide
@[simp] theorem costOf_daa : costOf .daa = 1 := by decide
@[simp] theorem costOf_cpl : costOf .cpl = 1 := by decide
@[simp] theorem costOf_scf : costOf .scf = 1 := by decide
@[simp] theorem costOf_ccf : costOf .ccf = 1 := by decide
@[simp] theorem costOf_rlca : costOf .rlca = 1 := by decide
@[simp] theorem costOf_rrca : costOf .rrca = 1 := by decide
@[simp] theorem costOf_rla : costOf .rla = 1 := by decide
@[simp] theorem costOf_rra : costOf .rra = 1 := by decide
@[simp] theorem costOf_jpHL : costOf .jpHL = 1 := by decide
@[simp] theorem costOf_ret : costOf .ret = 4 := by decide
@[simp] theorem costOf_reti : costOf .reti = 4 := by decide
@[simp] theorem costOf_nop : costOf .nop = 1 := by decide
@[simp] theorem costOf_halt : costOf .halt = 1 := by decide
@[simp] theorem costOf_di : costOf .di = 1 := by decide
@[simp] theorem costOf_ei : costOf .ei = 1 := by decide
@[simp] theorem costOf_ldAAtAbs (v : Word) : costOf (.ldAAtAbs v) = 4 := by
  simp [costOf, encodeForm, Config.tableCost, Config.gridCell, Config.takenCostRow]
@[simp] theorem costOf_ldAtAbsA (v : Word) : costOf (.ldAtAbsA v) = 4 := by
  simp [costOf, encodeForm, Config.tableCost, Config.gridCell, Config.takenCostRow]
@[simp] theorem costOf_ldhAAt (v : Byte) : costOf (.ldhAAt v) = 3 := by
  simp [costOf, encodeForm, Config.tableCost, Config.gridCell, Config.takenCostRow]
@[simp] theorem costOf_ldhAtA (v : Byte) : costOf (.ldhAtA v) = 3 := by
  simp [costOf, encodeForm, Config.tableCost, Config.gridCell, Config.takenCostRow]
@[simp] theorem costOf_ldAtAbsSP (v : Word) : costOf (.ldAtAbsSP v) = 5 := by
  simp [costOf, encodeForm, Config.tableCost, Config.gridCell, Config.takenCostRow]
@[simp] theorem costOf_ldHLSPPlus (v : Byte) : costOf (.ldHLSPPlus v) = 3 := by
  simp [costOf, encodeForm, Config.tableCost, Config.gridCell, Config.takenCostRow]
@[simp] theorem costOf_addSP (v : Byte) : costOf (.addSP v) = 4 := by
  simp [costOf, encodeForm, Config.tableCost, Config.gridCell, Config.takenCostRow]
@[simp] theorem costOf_jp (v : Word) : costOf (.jp v) = 4 := by
  simp [costOf, encodeForm, Config.tableCost, Config.gridCell, Config.takenCostRow]
@[simp] theorem costOf_jr (v : Byte) : costOf (.jr v) = 3 := by
  simp [costOf, encodeForm, Config.tableCost, Config.gridCell, Config.takenCostRow]
@[simp] theorem costOf_call (v : Word) : costOf (.call v) = 6 := by
  simp [costOf, encodeForm, Config.tableCost, Config.gridCell, Config.takenCostRow]
@[simp] theorem costOf_stop (v : Byte) : costOf (.stop v) = 1 := by
  simp [costOf, encodeForm, Config.tableCost, Config.gridCell, Config.takenCostRow]
@[simp] theorem costOf_ldPairImm (p : Pair) (d16 : Word) : costOf (.ldPairImm p d16) = 3 := by
  cases p <;> simp [costOf, encodeForm, Config.tableCost, Config.gridCell, Config.takenCostRow, Pair.code]
@[simp] theorem costOf_push (q : StackPair) : costOf (.push q) = 4 := by cases q <;> decide
@[simp] theorem costOf_pop (q : StackPair) : costOf (.pop q) = 3 := by cases q <;> decide
@[simp] theorem costOf_addHL (p : Pair) : costOf (.addHL p) = 2 := by cases p <;> decide
@[simp] theorem costOf_incPair (p : Pair) : costOf (.incPair p) = 2 := by cases p <;> decide
@[simp] theorem costOf_decPair (p : Pair) : costOf (.decPair p) = 2 := by cases p <;> decide
@[simp] theorem costOf_rst (t : BitVec 3) : costOf (.rst t) = 4 := by revert t; decide
@[simp] theorem costOf_jpIf (cc : Cond) (v : Word) : costOf (.jpIf cc v) = 4 := by
  cases cc <;> simp [costOf, encodeForm, Config.tableCost, Config.gridCell, Config.takenCostRow, Cond.code]
@[simp] theorem costNotTaken_jpIf (cc : Cond) (v : Word) : costNotTaken (.jpIf cc v) = 3 := by
  cases cc <;> simp [costNotTaken, encodeForm, Config.tableCost, Config.gridCell, Config.notTakenCostRow, Cond.code]
@[simp] theorem costOf_jrIf (cc : Cond) (v : Byte) : costOf (.jrIf cc v) = 3 := by
  cases cc <;> simp [costOf, encodeForm, Config.tableCost, Config.gridCell, Config.takenCostRow, Cond.code]
@[simp] theorem costNotTaken_jrIf (cc : Cond) (v : Byte) : costNotTaken (.jrIf cc v) = 2 := by
  cases cc <;> simp [costNotTaken, encodeForm, Config.tableCost, Config.gridCell, Config.notTakenCostRow, Cond.code]
@[simp] theorem costOf_callIf (cc : Cond) (v : Word) : costOf (.callIf cc v) = 6 := by
  cases cc <;> simp [costOf, encodeForm, Config.tableCost, Config.gridCell, Config.takenCostRow, Cond.code]
@[simp] theorem costNotTaken_callIf (cc : Cond) (v : Word) : costNotTaken (.callIf cc v) = 3 := by
  cases cc <;> simp [costNotTaken, encodeForm, Config.tableCost, Config.gridCell, Config.notTakenCostRow, Cond.code]
@[simp] theorem costOf_retIf (cc : Cond) : costOf (.retIf cc) = 5 := by
  cases cc <;> simp [costOf, encodeForm, Config.tableCost, Config.gridCell, Config.takenCostRow, Cond.code]
@[simp] theorem costNotTaken_retIf (cc : Cond) : costNotTaken (.retIf cc) = 2 := by
  cases cc <;> simp [costNotTaken, encodeForm, Config.tableCost, Config.gridCell, Config.notTakenCostRow, Cond.code]
@[simp] theorem costOf_incReg (r : Reg8) : costOf (.incLoc (.reg r)) = 1 := by cases r <;> decide
@[simp] theorem costOf_incAtHL : costOf (.incLoc .atHL) = 3 := by decide
@[simp] theorem costOf_decReg (r : Reg8) : costOf (.decLoc (.reg r)) = 1 := by cases r <;> decide
@[simp] theorem costOf_decAtHL : costOf (.decLoc .atHL) = 3 := by decide
@[simp] theorem costOf_aluReg (op : AluOp) (r : Reg8) : costOf (.alu op (.loc (.reg r))) = 1 := by cases op <;> cases r <;> decide
@[simp] theorem costOf_aluAtHL (op : AluOp) : costOf (.alu op (.loc .atHL)) = 2 := by cases op <;> decide
@[simp] theorem costOf_aluImm (op : AluOp) (d8 : Byte) : costOf (.alu op (.imm d8)) = 2 := by
  cases op <;> simp [costOf, encodeForm, Config.tableCost, Config.gridCell, Config.takenCostRow, AluOp.code]
@[simp] theorem costOf_rotReg (op : RotOp) (r : Reg8) : costOf (.rot op (.reg r)) = 2 := by cases op <;> cases r <;> decide
@[simp] theorem costOf_rotAtHL (op : RotOp) : costOf (.rot op .atHL) = 4 := by cases op <;> decide
@[simp] theorem costOf_bitReg (n : BitVec 3) (r : Reg8) : costOf (.bit n (.reg r)) = 2 := by revert n; cases r <;> decide
@[simp] theorem costOf_bitAtHL (n : BitVec 3) : costOf (.bit n .atHL) = 3 := by revert n; decide
@[simp] theorem costOf_resReg (n : BitVec 3) (r : Reg8) : costOf (.res n (.reg r)) = 2 := by revert n; cases r <;> decide
@[simp] theorem costOf_resAtHL (n : BitVec 3) : costOf (.res n .atHL) = 4 := by revert n; decide
@[simp] theorem costOf_setReg (n : BitVec 3) (r : Reg8) : costOf (.set n (.reg r)) = 2 := by revert n; cases r <;> decide
@[simp] theorem costOf_setAtHL (n : BitVec 3) : costOf (.set n .atHL) = 4 := by revert n; decide

end Sys2Proof.Machine
end

