-- ==== Sys2Proof/Laws/Memory.lean ====
section
/-! SUPPORT. The laws of memory: read after write, the canonical form kept by every operation, and equality of
canonical memories that read alike. -/

namespace Sys2Proof.Machine

theorem Memory.read_erase (m : Memory) (a b : Nat) :
    Memory.read (Memory.erase m a) b = if b = a then Memory.unlisted else Memory.read m b := by
  induction m with
  | nil => simp [Memory.erase, Memory.read]
  | cons e rest ih =>
    obtain ⟨k, x⟩ := e
    by_cases hk : a = k
    · subst hk
      rw [Memory.erase, if_pos rfl, ih]
      by_cases hb : b = a <;> simp [Memory.read, hb]
    · rw [Memory.erase, if_neg hk, Memory.read, ih, Memory.read]
      by_cases hb : b = k
      · simp [hb, Ne.symm hk]
      · simp [hb]

theorem Memory.read_insert_erase (m : Memory) (a : Nat) (v : Byte) (b : Nat) :
    Memory.read (Memory.insert (Memory.erase m a) a v) b = if b = a then v else Memory.read m b := by
  induction m with
  | nil => simp [Memory.erase, Memory.insert, Memory.read]
  | cons e rest ih =>
    obtain ⟨k, x⟩ := e
    by_cases hk : a = k
    · subst hk
      rw [Memory.erase, if_pos rfl, ih]
      by_cases hb : b = a <;> simp [Memory.read, hb]
    · rw [Memory.erase, if_neg hk, Memory.insert]
      by_cases hlt : a < k
      · rw [if_pos hlt, Memory.read, Memory.read, Memory.read_erase, Memory.read]
        by_cases hb : b = a <;> simp [hb]
      · rw [if_neg hlt, Memory.read, ih, Memory.read]
        by_cases hb : b = k
        · simp [hb, Ne.symm hk]
        · simp [hb]

/-- A read after a write: the written byte at its address, every other byte as before. -/
theorem Memory.read_write (m : Memory) (a : Nat) (v : Byte) (b : Nat) :
    Memory.read (Memory.write m a v) b = if b = a then v else Memory.read m b := by
  by_cases hv : v = Memory.unlisted
  · rw [Memory.write, if_pos hv, Memory.read_erase, hv]
  · rw [Memory.write, if_neg hv, Memory.read_insert_erase]

theorem Memory.wfFrom_mono {lo lo' : Nat} (h : lo' ≤ lo) : ∀ {m : Memory}, Memory.wfFrom lo m = true → Memory.wfFrom lo' m = true
  | [], _ => rfl
  | (k, v) :: rest, hm => by
    simp only [Memory.wfFrom, Bool.and_eq_true, decide_eq_true_eq] at hm ⊢
    exact ⟨⟨⟨by omega, hm.1.1.2⟩, hm.1.2⟩, hm.2⟩

theorem Memory.wfFrom_erase (a : Nat) : ∀ {m : Memory} {lo : Nat}, Memory.wfFrom lo m = true →
    Memory.wfFrom lo (Memory.erase m a) = true
  | [], _, _ => rfl
  | (k, v) :: rest, lo, hm => by
    simp only [Memory.wfFrom, Bool.and_eq_true, decide_eq_true_eq] at hm
    by_cases hk : a = k
    · rw [Memory.erase, if_pos hk]
      exact Memory.wfFrom_erase a (Memory.wfFrom_mono (by omega) hm.2)
    · rw [Memory.erase, if_neg hk]
      simp only [Memory.wfFrom, Bool.and_eq_true, decide_eq_true_eq]
      exact ⟨hm.1, Memory.wfFrom_erase a hm.2⟩

theorem Memory.wfFrom_insert_erase {a : Nat} (ha : a < 65536) {v : Byte} (hv : v ≠ Memory.unlisted) :
    ∀ {m : Memory} {lo : Nat}, lo ≤ a → Memory.wfFrom lo m = true →
      Memory.wfFrom lo (Memory.insert (Memory.erase m a) a v) = true
  | [], lo, hlo, _ => by simp [Memory.erase, Memory.insert, Memory.wfFrom, hlo, ha, hv]
  | (k, x) :: rest, lo, hlo, hm => by
    simp only [Memory.wfFrom, Bool.and_eq_true, decide_eq_true_eq] at hm
    by_cases hk : a = k
    · rw [Memory.erase, if_pos hk]
      exact Memory.wfFrom_insert_erase ha hv hlo (Memory.wfFrom_mono (by omega) hm.2)
    · rw [Memory.erase, if_neg hk, Memory.insert]
      by_cases hlt : a < k
      · rw [if_pos hlt]
        simp only [Memory.wfFrom, Bool.and_eq_true, decide_eq_true_eq]
        exact ⟨⟨⟨hlo, ha⟩, hv⟩, ⟨⟨⟨by omega, hm.1.1.2⟩, hm.1.2⟩, Memory.wfFrom_erase a hm.2⟩⟩
      · rw [if_neg hlt]
        simp only [Memory.wfFrom, Bool.and_eq_true, decide_eq_true_eq]
        exact ⟨hm.1, Memory.wfFrom_insert_erase ha hv (by omega) hm.2⟩

/-- A write keeps the canonical form. -/
theorem Memory.wf_write {m : Memory} (hm : Memory.wf m = true) {a : Nat} (ha : a < 65536) (v : Byte) :
    Memory.wf (Memory.write m a v) = true := by
  by_cases hv : v = Memory.unlisted
  · rw [Memory.write, if_pos hv]
    exact Memory.wfFrom_erase a hm
  · rw [Memory.write, if_neg hv]
    exact Memory.wfFrom_insert_erase ha hv (Nat.zero_le a) hm

theorem Memory.read_below : ∀ {m : Memory} {lo a : Nat}, Memory.wfFrom lo m = true → a < lo → Memory.read m a = Memory.unlisted
  | [], _, _, _, _ => rfl
  | (k, v) :: rest, lo, a, hm, ha => by
    simp only [Memory.wfFrom, Bool.and_eq_true, decide_eq_true_eq] at hm
    rw [Memory.read, if_neg (by omega)]
    exact Memory.read_below hm.2 (by omega)

theorem Memory.ext_from : ∀ {m m' : Memory} {lo lo' : Nat}, Memory.wfFrom lo m = true → Memory.wfFrom lo' m' = true →
    (∀ a, Memory.read m a = Memory.read m' a) → m = m'
  | [], [], _, _, _, _, _ => rfl
  | [], (k, v) :: rest, _, _, _, hm', h => by
    simp only [Memory.wfFrom, Bool.and_eq_true, decide_eq_true_eq] at hm'
    have h1 : Memory.unlisted = v := by simpa [Memory.read] using h k
    exact absurd h1.symm hm'.1.2
  | (k, v) :: rest, [], _, _, hm, _, h => by
    simp only [Memory.wfFrom, Bool.and_eq_true, decide_eq_true_eq] at hm
    have h1 : v = Memory.unlisted := by simpa [Memory.read] using h k
    exact absurd h1 hm.1.2
  | (k, v) :: rest, (k', v') :: rest', _, _, hm, hm', h => by
    simp only [Memory.wfFrom, Bool.and_eq_true, decide_eq_true_eq] at hm hm'
    have hkk : k = k' := by
      have h1 := h k
      have h2 := h k'
      rw [Memory.read, if_pos rfl, Memory.read] at h1
      rw [Memory.read, Memory.read, if_pos rfl] at h2
      rcases Nat.lt_trichotomy k k' with hlt | heq | hgt
      · rw [if_neg (by omega), Memory.read_below hm'.2 (by omega)] at h1
        exact absurd h1 hm.1.2
      · exact heq
      · rw [if_neg (by omega), Memory.read_below hm.2 (by omega)] at h2
        exact absurd h2.symm hm'.1.2
    subst hkk
    have hv : v = v' := by
      have h1 := h k
      rwa [Memory.read, if_pos rfl, Memory.read, if_pos rfl] at h1
    subst hv
    have hr : rest = rest' := by
      apply Memory.ext_from hm.2 hm'.2
      intro a
      by_cases ha : a = k
      · rw [Memory.read_below hm.2 (by omega), Memory.read_below hm'.2 (by omega)]
      · have := h a
        rwa [Memory.read, if_neg ha, Memory.read, if_neg ha] at this
    rw [hr]

/-- Canonical memories that read alike are equal data. -/
theorem Memory.ext_of_wf {m m' : Memory} (hm : Memory.wf m = true) (hm' : Memory.wf m' = true)
    (h : ∀ a, Memory.read m a = Memory.read m' a) : m = m' :=
  Memory.ext_from hm hm' h

-- The Memory Interface

/-- Reading one byte depends on the map, the storage and what devices have seen, and on nothing else. -/
theorem State.readByte_congr {s t : State} (hmap : t.map = s.map) (hbus : t.bus = s.bus) (hmem : t.mem = s.mem)
    (x : Word) : t.readByte x = s.readByte x := by
  cases s; cases t; cases hmap; cases hbus; cases hmem
  rfl

/-- Outside device windows a read answers the byte of storage. -/
theorem State.readByte_of_not_device {s : State} {x : Word} (h : s.kind x ≠ .device) : s.readByte x = s.stored x :=
  if_neg h

theorem State.readByte_of_ram {s : State} {x : Word} (h : s.kind x = .ram) : s.readByte x = s.stored x :=
  State.readByte_of_not_device (by simp [h])

/-- At a device's address a read answers the free value for what the devices have seen. -/
theorem State.readByte_of_device {s : State} {x : Word} (h : s.kind x = .device) :
    s.readByte x = Config.deviceAnswer s.bus x :=
  if_pos h

/-- A read that no device sees changes nothing. -/
theorem State.afterRead_of_not_device {s : State} {x : Word} (h : s.kind x ≠ .device) : s.afterRead x = s := by
  simp [State.afterRead, h]

theorem State.afterRead_of_ram {s : State} {x : Word} (h : s.kind x = .ram) : s.afterRead x = s :=
  State.afterRead_of_not_device (by simp [h])

/-- Every memory operation leaves the map as it is. -/
@[simp] theorem State.kind_afterRead (s : State) (a x : Word) : (s.afterRead a).kind x = s.kind x := rfl
@[simp] theorem State.kind_afterReadWord (s : State) (a x : Word) : (s.afterReadWord a).kind x = s.kind x := rfl
@[simp] theorem State.kind_writeByte (s : State) (a : Word) (v : Byte) (x : Word) :
    (s.writeByte a v).kind x = s.kind x := rfl
@[simp] theorem State.kind_writeWord (s : State) (a v x : Word) : (s.writeWord a v).kind x = s.kind x := rfl
@[simp] theorem State.kind_push (s : State) (v x : Word) : (s.push v).kind x = s.kind x := rfl

/-- Reads leave storage as it is. -/
@[simp] theorem State.stored_afterRead (s : State) (a x : Word) : (s.afterRead a).stored x = s.stored x := rfl
@[simp] theorem State.stored_afterReadWord (s : State) (a x : Word) : (s.afterReadWord a).stored x = s.stored x := rfl

/-- A byte of storage after a byte write: the byte written at its address if that is RAM, else as before. -/
theorem State.stored_writeByte (s : State) (a : Word) (v : Byte) (x : Word) :
    (s.writeByte a v).stored x = if s.kind a = .ram ∧ x = a then v else s.stored x := by
  by_cases h : s.kind a = .ram <;> simp [State.stored, State.writeByte, h, Memory.read_write, BitVec.toNat_inj]

/-- Two neighbouring addresses differ, at the wrap too. -/
theorem word_succ_ne (a : Word) : a + 1#16 ≠ a := by
  intro h
  have := congrArg BitVec.toNat h
  simp only [BitVec.toNat_add, BitVec.toNat_ofNat] at this
  omega

/-- A byte of storage after a word write: the low byte at the address, the high byte at the next one (R52, R53), each
where it is RAM. -/
theorem State.stored_writeWord (s : State) (a v x : Word) :
    (s.writeWord a v).stored x =
      if s.kind (a + 1#16) = .ram ∧ x = a + 1#16 then hiByte v
      else if s.kind a = .ram ∧ x = a then loByte v else s.stored x := by
  rw [State.writeWord, State.stored_writeByte, State.stored_writeByte, State.kind_writeByte]

/-- A byte of storage after a push. -/
theorem State.stored_push (s : State) (v x : Word) :
    (s.push v).stored x =
      if s.kind (s.sp - 2#16 + 1#16) = .ram ∧ x = s.sp - 2#16 + 1#16 then hiByte v
      else if s.kind (s.sp - 2#16) = .ram ∧ x = s.sp - 2#16 then loByte v else s.stored x :=
  State.stored_writeWord { s with sp := s.sp - 2#16 } _ _ _

/-- What a write leaves, by what is mapped at its address. -/
theorem State.writeByte_of_ram {s : State} {a : Word} (h : s.kind a = .ram) (v : Byte) :
    s.writeByte a v = { s with mem := Memory.write s.mem a.toNat v } := by
  simp [State.writeByte, h]

theorem State.writeByte_of_rom {s : State} {a : Word} (h : s.kind a = .rom) (v : Byte) : s.writeByte a v = s := by
  simp [State.writeByte, h]

theorem State.writeByte_of_device {s : State} {a : Word} (h : s.kind a = .device) (v : Byte) :
    s.writeByte a v = { s with bus := .write a v :: s.bus } := by
  simp [State.writeByte, h]

/-- A byte read after a byte write to RAM. -/
theorem State.readByte_writeByte (s : State) {a : Word} (h : s.kind a = .ram) (v : Byte) (b : Word) :
    (s.writeByte a v).readByte b = if b = a then v else s.readByte b := by
  have hbus : (s.writeByte a v).bus = s.bus := by rw [State.writeByte_of_ram h]
  simp only [State.readByte, State.kind_writeByte, State.stored_writeByte, hbus, h, true_and]
  by_cases hb : b = a
  · simp [hb, h]
  · simp [hb]

/-- A byte read after a word write to RAM: the low byte at the address, the high byte at the next one (R52, R53). -/
theorem State.readByte_writeWord (s : State) {a : Word} (h : s.kind a = .ram) (h' : s.kind (a + 1#16) = .ram)
    (v b : Word) :
    (s.writeWord a v).readByte b =
      if b = a + 1#16 then hiByte v else if b = a then loByte v else s.readByte b := by
  rw [State.writeWord, State.readByte_writeByte (s.writeByte a (loByte v)) h', State.readByte_writeByte s h]

/-- A byte read after a push to RAM. -/
theorem State.readByte_push (s : State) (h : s.kind (s.sp - 2#16) = .ram) (h' : s.kind (s.sp - 2#16 + 1#16) = .ram)
    (v b : Word) :
    (s.push v).readByte b =
      if b = s.sp - 2#16 + 1#16 then hiByte v else if b = s.sp - 2#16 then loByte v else s.readByte b :=
  State.readByte_writeWord { s with sp := s.sp - 2#16 } h h' v b

/-- Byte and word writes keep the canonical form. -/
theorem State.wf_writeByte {s : State} (h : Memory.wf s.mem = true) (a : Word) (v : Byte) :
    Memory.wf (s.writeByte a v).mem = true := by
  simp only [State.writeByte]
  split
  · exact Memory.wf_write h a.isLt v
  · exact h

theorem State.wf_writeWord {s : State} (h : Memory.wf s.mem = true) (a v : Word) :
    Memory.wf (s.writeWord a v).mem = true :=
  State.wf_writeByte (State.wf_writeByte h a _) _ _

theorem State.wf_push {s : State} (h : Memory.wf s.mem = true) (v : Word) : Memory.wf (s.push v).mem = true :=
  State.wf_writeWord (s := { s with sp := s.sp - 2#16 }) h _ _

end Sys2Proof.Machine
end

