-- ==== Sys2Proof/Laws/State.lean ====
section
/-! SUPPORT. One lemma per field per update of State, and the derived accessors that an update leaves alone. -/

namespace Sys2Proof.Machine

@[simp] theorem State.setReg_a (s : State) (r : Reg8) (v : Byte) : (s.setReg r v).a = if r = .a then v else s.a := by cases r <;> rfl
@[simp] theorem State.setReg_f (s : State) (r : Reg8) (v : Byte) : (s.setReg r v).f = s.f := by cases r <;> rfl
@[simp] theorem State.setReg_b (s : State) (r : Reg8) (v : Byte) : (s.setReg r v).b = if r = .b then v else s.b := by cases r <;> rfl
@[simp] theorem State.setReg_c (s : State) (r : Reg8) (v : Byte) : (s.setReg r v).c = if r = .c then v else s.c := by cases r <;> rfl
@[simp] theorem State.setReg_d (s : State) (r : Reg8) (v : Byte) : (s.setReg r v).d = if r = .d then v else s.d := by cases r <;> rfl
@[simp] theorem State.setReg_e (s : State) (r : Reg8) (v : Byte) : (s.setReg r v).e = if r = .e then v else s.e := by cases r <;> rfl
@[simp] theorem State.setReg_h (s : State) (r : Reg8) (v : Byte) : (s.setReg r v).h = if r = .h then v else s.h := by cases r <;> rfl
@[simp] theorem State.setReg_l (s : State) (r : Reg8) (v : Byte) : (s.setReg r v).l = if r = .l then v else s.l := by cases r <;> rfl
@[simp] theorem State.setReg_sp (s : State) (r : Reg8) (v : Byte) : (s.setReg r v).sp = s.sp := by cases r <;> rfl
@[simp] theorem State.setReg_pc (s : State) (r : Reg8) (v : Byte) : (s.setReg r v).pc = s.pc := by cases r <;> rfl
@[simp] theorem State.setReg_ime (s : State) (r : Reg8) (v : Byte) : (s.setReg r v).ime = s.ime := by cases r <;> rfl
@[simp] theorem State.setReg_halted (s : State) (r : Reg8) (v : Byte) : (s.setReg r v).halted = s.halted := by cases r <;> rfl
@[simp] theorem State.setReg_pending (s : State) (r : Reg8) (v : Byte) : (s.setReg r v).pending = s.pending := by cases r <;> rfl
@[simp] theorem State.setReg_cycles (s : State) (r : Reg8) (v : Byte) : (s.setReg r v).cycles = s.cycles := by cases r <;> rfl
@[simp] theorem State.setReg_mem (s : State) (r : Reg8) (v : Byte) : (s.setReg r v).mem = s.mem := by cases r <;> rfl
@[simp] theorem State.setReg_map (s : State) (r : Reg8) (v : Byte) : (s.setReg r v).map = s.map := by cases r <;> rfl
@[simp] theorem State.setReg_bus (s : State) (r : Reg8) (v : Byte) : (s.setReg r v).bus = s.bus := by cases r <;> rfl
@[simp] theorem State.setReg_fZ (s : State) (r : Reg8) (v : Byte) : (s.setReg r v).fZ = s.fZ := by cases r <;> rfl
@[simp] theorem State.setReg_fN (s : State) (r : Reg8) (v : Byte) : (s.setReg r v).fN = s.fN := by cases r <;> rfl
@[simp] theorem State.setReg_fH (s : State) (r : Reg8) (v : Byte) : (s.setReg r v).fH = s.fH := by cases r <;> rfl
@[simp] theorem State.setReg_fC (s : State) (r : Reg8) (v : Byte) : (s.setReg r v).fC = s.fC := by cases r <;> rfl
@[simp] theorem State.setReg_kind (s : State) (r : Reg8) (v : Byte) (x : Word) : (s.setReg r v).kind x = s.kind x := by cases r <;> rfl
@[simp] theorem State.setReg_stored (s : State) (r : Reg8) (v : Byte) (x : Word) : (s.setReg r v).stored x = s.stored x := by cases r <;> rfl
@[simp] theorem State.setReg_readByte (s : State) (r : Reg8) (v : Byte) (x : Word) : (s.setReg r v).readByte x = s.readByte x := by cases r <;> rfl

@[simp] theorem State.setHL_a (s : State) (v : Word) : (s.setHL v).a = s.a := rfl
@[simp] theorem State.setHL_f (s : State) (v : Word) : (s.setHL v).f = s.f := rfl
@[simp] theorem State.setHL_b (s : State) (v : Word) : (s.setHL v).b = s.b := rfl
@[simp] theorem State.setHL_c (s : State) (v : Word) : (s.setHL v).c = s.c := rfl
@[simp] theorem State.setHL_d (s : State) (v : Word) : (s.setHL v).d = s.d := rfl
@[simp] theorem State.setHL_e (s : State) (v : Word) : (s.setHL v).e = s.e := rfl
@[simp] theorem State.setHL_h (s : State) (v : Word) : (s.setHL v).h = hiByte v := rfl
@[simp] theorem State.setHL_l (s : State) (v : Word) : (s.setHL v).l = loByte v := rfl
@[simp] theorem State.setHL_sp (s : State) (v : Word) : (s.setHL v).sp = s.sp := rfl
@[simp] theorem State.setHL_pc (s : State) (v : Word) : (s.setHL v).pc = s.pc := rfl
@[simp] theorem State.setHL_ime (s : State) (v : Word) : (s.setHL v).ime = s.ime := rfl
@[simp] theorem State.setHL_halted (s : State) (v : Word) : (s.setHL v).halted = s.halted := rfl
@[simp] theorem State.setHL_pending (s : State) (v : Word) : (s.setHL v).pending = s.pending := rfl
@[simp] theorem State.setHL_cycles (s : State) (v : Word) : (s.setHL v).cycles = s.cycles := rfl
@[simp] theorem State.setHL_mem (s : State) (v : Word) : (s.setHL v).mem = s.mem := rfl
@[simp] theorem State.setHL_map (s : State) (v : Word) : (s.setHL v).map = s.map := rfl
@[simp] theorem State.setHL_bus (s : State) (v : Word) : (s.setHL v).bus = s.bus := rfl
@[simp] theorem State.setHL_fZ (s : State) (v : Word) : (s.setHL v).fZ = s.fZ := rfl
@[simp] theorem State.setHL_fN (s : State) (v : Word) : (s.setHL v).fN = s.fN := rfl
@[simp] theorem State.setHL_fH (s : State) (v : Word) : (s.setHL v).fH = s.fH := rfl
@[simp] theorem State.setHL_fC (s : State) (v : Word) : (s.setHL v).fC = s.fC := rfl
@[simp] theorem State.setHL_kind (s : State) (v : Word) (x : Word) : (s.setHL v).kind x = s.kind x := rfl
@[simp] theorem State.setHL_stored (s : State) (v : Word) (x : Word) : (s.setHL v).stored x = s.stored x := rfl
@[simp] theorem State.setHL_readByte (s : State) (v : Word) (x : Word) : (s.setHL v).readByte x = s.readByte x := rfl

@[simp] theorem State.setPair_a (s : State) (p : Pair) (v : Word) : (s.setPair p v).a = s.a := by cases p <;> rfl
@[simp] theorem State.setPair_f (s : State) (p : Pair) (v : Word) : (s.setPair p v).f = s.f := by cases p <;> rfl
@[simp] theorem State.setPair_b (s : State) (p : Pair) (v : Word) : (s.setPair p v).b = if p = .bc then hiByte v else s.b := by cases p <;> rfl
@[simp] theorem State.setPair_c (s : State) (p : Pair) (v : Word) : (s.setPair p v).c = if p = .bc then loByte v else s.c := by cases p <;> rfl
@[simp] theorem State.setPair_d (s : State) (p : Pair) (v : Word) : (s.setPair p v).d = if p = .de then hiByte v else s.d := by cases p <;> rfl
@[simp] theorem State.setPair_e (s : State) (p : Pair) (v : Word) : (s.setPair p v).e = if p = .de then loByte v else s.e := by cases p <;> rfl
@[simp] theorem State.setPair_h (s : State) (p : Pair) (v : Word) : (s.setPair p v).h = if p = .hl then hiByte v else s.h := by cases p <;> rfl
@[simp] theorem State.setPair_l (s : State) (p : Pair) (v : Word) : (s.setPair p v).l = if p = .hl then loByte v else s.l := by cases p <;> rfl
@[simp] theorem State.setPair_sp (s : State) (p : Pair) (v : Word) : (s.setPair p v).sp = if p = .sp then v else s.sp := by cases p <;> rfl
@[simp] theorem State.setPair_pc (s : State) (p : Pair) (v : Word) : (s.setPair p v).pc = s.pc := by cases p <;> rfl
@[simp] theorem State.setPair_ime (s : State) (p : Pair) (v : Word) : (s.setPair p v).ime = s.ime := by cases p <;> rfl
@[simp] theorem State.setPair_halted (s : State) (p : Pair) (v : Word) : (s.setPair p v).halted = s.halted := by cases p <;> rfl
@[simp] theorem State.setPair_pending (s : State) (p : Pair) (v : Word) : (s.setPair p v).pending = s.pending := by cases p <;> rfl
@[simp] theorem State.setPair_cycles (s : State) (p : Pair) (v : Word) : (s.setPair p v).cycles = s.cycles := by cases p <;> rfl
@[simp] theorem State.setPair_mem (s : State) (p : Pair) (v : Word) : (s.setPair p v).mem = s.mem := by cases p <;> rfl
@[simp] theorem State.setPair_map (s : State) (p : Pair) (v : Word) : (s.setPair p v).map = s.map := by cases p <;> rfl
@[simp] theorem State.setPair_bus (s : State) (p : Pair) (v : Word) : (s.setPair p v).bus = s.bus := by cases p <;> rfl
@[simp] theorem State.setPair_fZ (s : State) (p : Pair) (v : Word) : (s.setPair p v).fZ = s.fZ := by cases p <;> rfl
@[simp] theorem State.setPair_fN (s : State) (p : Pair) (v : Word) : (s.setPair p v).fN = s.fN := by cases p <;> rfl
@[simp] theorem State.setPair_fH (s : State) (p : Pair) (v : Word) : (s.setPair p v).fH = s.fH := by cases p <;> rfl
@[simp] theorem State.setPair_fC (s : State) (p : Pair) (v : Word) : (s.setPair p v).fC = s.fC := by cases p <;> rfl
@[simp] theorem State.setPair_kind (s : State) (p : Pair) (v : Word) (x : Word) : (s.setPair p v).kind x = s.kind x := by cases p <;> rfl
@[simp] theorem State.setPair_stored (s : State) (p : Pair) (v : Word) (x : Word) : (s.setPair p v).stored x = s.stored x := by cases p <;> rfl
@[simp] theorem State.setPair_readByte (s : State) (p : Pair) (v : Word) (x : Word) : (s.setPair p v).readByte x = s.readByte x := by cases p <;> rfl

@[simp] theorem State.setStackPair_a (s : State) (q : StackPair) (v : Word) : (s.setStackPair q v).a = if q = .af then hiByte v else s.a := by cases q <;> rfl
@[simp] theorem State.setStackPair_f (s : State) (q : StackPair) (v : Word) : (s.setStackPair q v).f = if q = .af then loByte v &&& 0xF0#8 else s.f := by cases q <;> rfl
@[simp] theorem State.setStackPair_b (s : State) (q : StackPair) (v : Word) : (s.setStackPair q v).b = if q = .bc then hiByte v else s.b := by cases q <;> rfl
@[simp] theorem State.setStackPair_c (s : State) (q : StackPair) (v : Word) : (s.setStackPair q v).c = if q = .bc then loByte v else s.c := by cases q <;> rfl
@[simp] theorem State.setStackPair_d (s : State) (q : StackPair) (v : Word) : (s.setStackPair q v).d = if q = .de then hiByte v else s.d := by cases q <;> rfl
@[simp] theorem State.setStackPair_e (s : State) (q : StackPair) (v : Word) : (s.setStackPair q v).e = if q = .de then loByte v else s.e := by cases q <;> rfl
@[simp] theorem State.setStackPair_h (s : State) (q : StackPair) (v : Word) : (s.setStackPair q v).h = if q = .hl then hiByte v else s.h := by cases q <;> rfl
@[simp] theorem State.setStackPair_l (s : State) (q : StackPair) (v : Word) : (s.setStackPair q v).l = if q = .hl then loByte v else s.l := by cases q <;> rfl
@[simp] theorem State.setStackPair_sp (s : State) (q : StackPair) (v : Word) : (s.setStackPair q v).sp = s.sp := by cases q <;> rfl
@[simp] theorem State.setStackPair_pc (s : State) (q : StackPair) (v : Word) : (s.setStackPair q v).pc = s.pc := by cases q <;> rfl
@[simp] theorem State.setStackPair_ime (s : State) (q : StackPair) (v : Word) : (s.setStackPair q v).ime = s.ime := by cases q <;> rfl
@[simp] theorem State.setStackPair_halted (s : State) (q : StackPair) (v : Word) : (s.setStackPair q v).halted = s.halted := by cases q <;> rfl
@[simp] theorem State.setStackPair_pending (s : State) (q : StackPair) (v : Word) : (s.setStackPair q v).pending = s.pending := by cases q <;> rfl
@[simp] theorem State.setStackPair_cycles (s : State) (q : StackPair) (v : Word) : (s.setStackPair q v).cycles = s.cycles := by cases q <;> rfl
@[simp] theorem State.setStackPair_mem (s : State) (q : StackPair) (v : Word) : (s.setStackPair q v).mem = s.mem := by cases q <;> rfl
@[simp] theorem State.setStackPair_map (s : State) (q : StackPair) (v : Word) : (s.setStackPair q v).map = s.map := by cases q <;> rfl
@[simp] theorem State.setStackPair_bus (s : State) (q : StackPair) (v : Word) : (s.setStackPair q v).bus = s.bus := by cases q <;> rfl
@[simp] theorem State.setStackPair_kind (s : State) (q : StackPair) (v : Word) (x : Word) : (s.setStackPair q v).kind x = s.kind x := by cases q <;> rfl
@[simp] theorem State.setStackPair_stored (s : State) (q : StackPair) (v : Word) (x : Word) : (s.setStackPair q v).stored x = s.stored x := by cases q <;> rfl
@[simp] theorem State.setStackPair_readByte (s : State) (q : StackPair) (v : Word) (x : Word) : (s.setStackPair q v).readByte x = s.readByte x := by cases q <;> rfl

@[simp] theorem State.setFlags_a (s : State) (u : FlagUpdate) : (s.setFlags u).a = s.a := rfl
@[simp] theorem State.setFlags_f (s : State) (u : FlagUpdate) : (s.setFlags u).f = flagByte (u.z.getD s.fZ) (u.n.getD s.fN) (u.h.getD s.fH) (u.c.getD s.fC) := rfl
@[simp] theorem State.setFlags_b (s : State) (u : FlagUpdate) : (s.setFlags u).b = s.b := rfl
@[simp] theorem State.setFlags_c (s : State) (u : FlagUpdate) : (s.setFlags u).c = s.c := rfl
@[simp] theorem State.setFlags_d (s : State) (u : FlagUpdate) : (s.setFlags u).d = s.d := rfl
@[simp] theorem State.setFlags_e (s : State) (u : FlagUpdate) : (s.setFlags u).e = s.e := rfl
@[simp] theorem State.setFlags_h (s : State) (u : FlagUpdate) : (s.setFlags u).h = s.h := rfl
@[simp] theorem State.setFlags_l (s : State) (u : FlagUpdate) : (s.setFlags u).l = s.l := rfl
@[simp] theorem State.setFlags_sp (s : State) (u : FlagUpdate) : (s.setFlags u).sp = s.sp := rfl
@[simp] theorem State.setFlags_pc (s : State) (u : FlagUpdate) : (s.setFlags u).pc = s.pc := rfl
@[simp] theorem State.setFlags_ime (s : State) (u : FlagUpdate) : (s.setFlags u).ime = s.ime := rfl
@[simp] theorem State.setFlags_halted (s : State) (u : FlagUpdate) : (s.setFlags u).halted = s.halted := rfl
@[simp] theorem State.setFlags_pending (s : State) (u : FlagUpdate) : (s.setFlags u).pending = s.pending := rfl
@[simp] theorem State.setFlags_cycles (s : State) (u : FlagUpdate) : (s.setFlags u).cycles = s.cycles := rfl
@[simp] theorem State.setFlags_mem (s : State) (u : FlagUpdate) : (s.setFlags u).mem = s.mem := rfl
@[simp] theorem State.setFlags_map (s : State) (u : FlagUpdate) : (s.setFlags u).map = s.map := rfl
@[simp] theorem State.setFlags_bus (s : State) (u : FlagUpdate) : (s.setFlags u).bus = s.bus := rfl
@[simp] theorem State.setFlags_kind (s : State) (u : FlagUpdate) (x : Word) : (s.setFlags u).kind x = s.kind x := rfl
@[simp] theorem State.setFlags_stored (s : State) (u : FlagUpdate) (x : Word) : (s.setFlags u).stored x = s.stored x := rfl
@[simp] theorem State.setFlags_readByte (s : State) (u : FlagUpdate) (x : Word) : (s.setFlags u).readByte x = s.readByte x := rfl
@[simp] theorem State.setFlags_reg (s : State) (u : FlagUpdate) (r : Reg8) : (s.setFlags u).reg r = s.reg r := by cases r <;> rfl
@[simp] theorem State.setFlags_hl (s : State) (u : FlagUpdate) : (s.setFlags u).hl = s.hl := rfl
@[simp] theorem State.setFlags_bc (s : State) (u : FlagUpdate) : (s.setFlags u).bc = s.bc := rfl
@[simp] theorem State.setFlags_de (s : State) (u : FlagUpdate) : (s.setFlags u).de = s.de := rfl

@[simp] theorem State.afterRead_a (s : State) (x : Word) : (s.afterRead x).a = s.a := rfl
@[simp] theorem State.afterRead_f (s : State) (x : Word) : (s.afterRead x).f = s.f := rfl
@[simp] theorem State.afterRead_b (s : State) (x : Word) : (s.afterRead x).b = s.b := rfl
@[simp] theorem State.afterRead_c (s : State) (x : Word) : (s.afterRead x).c = s.c := rfl
@[simp] theorem State.afterRead_d (s : State) (x : Word) : (s.afterRead x).d = s.d := rfl
@[simp] theorem State.afterRead_e (s : State) (x : Word) : (s.afterRead x).e = s.e := rfl
@[simp] theorem State.afterRead_h (s : State) (x : Word) : (s.afterRead x).h = s.h := rfl
@[simp] theorem State.afterRead_l (s : State) (x : Word) : (s.afterRead x).l = s.l := rfl
@[simp] theorem State.afterRead_sp (s : State) (x : Word) : (s.afterRead x).sp = s.sp := rfl
@[simp] theorem State.afterRead_pc (s : State) (x : Word) : (s.afterRead x).pc = s.pc := rfl
@[simp] theorem State.afterRead_ime (s : State) (x : Word) : (s.afterRead x).ime = s.ime := rfl
@[simp] theorem State.afterRead_halted (s : State) (x : Word) : (s.afterRead x).halted = s.halted := rfl
@[simp] theorem State.afterRead_pending (s : State) (x : Word) : (s.afterRead x).pending = s.pending := rfl
@[simp] theorem State.afterRead_cycles (s : State) (x : Word) : (s.afterRead x).cycles = s.cycles := rfl
@[simp] theorem State.afterRead_mem (s : State) (x : Word) : (s.afterRead x).mem = s.mem := rfl
@[simp] theorem State.afterRead_map (s : State) (x : Word) : (s.afterRead x).map = s.map := rfl
@[simp] theorem State.afterRead_bus (s : State) (x : Word) : (s.afterRead x).bus = if s.kind x = .device then .read x :: s.bus else s.bus := rfl
@[simp] theorem State.afterRead_fZ (s : State) (x : Word) : (s.afterRead x).fZ = s.fZ := rfl
@[simp] theorem State.afterRead_fN (s : State) (x : Word) : (s.afterRead x).fN = s.fN := rfl
@[simp] theorem State.afterRead_fH (s : State) (x : Word) : (s.afterRead x).fH = s.fH := rfl
@[simp] theorem State.afterRead_fC (s : State) (x : Word) : (s.afterRead x).fC = s.fC := rfl
@[simp] theorem State.afterRead_reg (s : State) (x : Word) (r : Reg8) : (s.afterRead x).reg r = s.reg r := by cases r <;> rfl
@[simp] theorem State.afterRead_hl (s : State) (x : Word) : (s.afterRead x).hl = s.hl := rfl
@[simp] theorem State.afterRead_bc (s : State) (x : Word) : (s.afterRead x).bc = s.bc := rfl
@[simp] theorem State.afterRead_de (s : State) (x : Word) : (s.afterRead x).de = s.de := rfl

@[simp] theorem State.afterReadWord_a (s : State) (x : Word) : (s.afterReadWord x).a = s.a := rfl
@[simp] theorem State.afterReadWord_f (s : State) (x : Word) : (s.afterReadWord x).f = s.f := rfl
@[simp] theorem State.afterReadWord_b (s : State) (x : Word) : (s.afterReadWord x).b = s.b := rfl
@[simp] theorem State.afterReadWord_c (s : State) (x : Word) : (s.afterReadWord x).c = s.c := rfl
@[simp] theorem State.afterReadWord_d (s : State) (x : Word) : (s.afterReadWord x).d = s.d := rfl
@[simp] theorem State.afterReadWord_e (s : State) (x : Word) : (s.afterReadWord x).e = s.e := rfl
@[simp] theorem State.afterReadWord_h (s : State) (x : Word) : (s.afterReadWord x).h = s.h := rfl
@[simp] theorem State.afterReadWord_l (s : State) (x : Word) : (s.afterReadWord x).l = s.l := rfl
@[simp] theorem State.afterReadWord_sp (s : State) (x : Word) : (s.afterReadWord x).sp = s.sp := rfl
@[simp] theorem State.afterReadWord_pc (s : State) (x : Word) : (s.afterReadWord x).pc = s.pc := rfl
@[simp] theorem State.afterReadWord_ime (s : State) (x : Word) : (s.afterReadWord x).ime = s.ime := rfl
@[simp] theorem State.afterReadWord_halted (s : State) (x : Word) : (s.afterReadWord x).halted = s.halted := rfl
@[simp] theorem State.afterReadWord_pending (s : State) (x : Word) : (s.afterReadWord x).pending = s.pending := rfl
@[simp] theorem State.afterReadWord_cycles (s : State) (x : Word) : (s.afterReadWord x).cycles = s.cycles := rfl
@[simp] theorem State.afterReadWord_mem (s : State) (x : Word) : (s.afterReadWord x).mem = s.mem := rfl
@[simp] theorem State.afterReadWord_map (s : State) (x : Word) : (s.afterReadWord x).map = s.map := rfl
@[simp] theorem State.afterReadWord_bus (s : State) (x : Word) : (s.afterReadWord x).bus = ((s.afterRead x).afterRead (x + 1#16)).bus := rfl
@[simp] theorem State.afterReadWord_fZ (s : State) (x : Word) : (s.afterReadWord x).fZ = s.fZ := rfl
@[simp] theorem State.afterReadWord_fN (s : State) (x : Word) : (s.afterReadWord x).fN = s.fN := rfl
@[simp] theorem State.afterReadWord_fH (s : State) (x : Word) : (s.afterReadWord x).fH = s.fH := rfl
@[simp] theorem State.afterReadWord_fC (s : State) (x : Word) : (s.afterReadWord x).fC = s.fC := rfl
@[simp] theorem State.afterReadWord_reg (s : State) (x : Word) (r : Reg8) : (s.afterReadWord x).reg r = s.reg r := by cases r <;> rfl
@[simp] theorem State.afterReadWord_hl (s : State) (x : Word) : (s.afterReadWord x).hl = s.hl := rfl
@[simp] theorem State.afterReadWord_bc (s : State) (x : Word) : (s.afterReadWord x).bc = s.bc := rfl
@[simp] theorem State.afterReadWord_de (s : State) (x : Word) : (s.afterReadWord x).de = s.de := rfl

@[simp] theorem State.afterReadLoc_a (s : State) (l : Loc) : (s.afterReadLoc l).a = s.a := by cases l <;> rfl
@[simp] theorem State.afterReadLoc_f (s : State) (l : Loc) : (s.afterReadLoc l).f = s.f := by cases l <;> rfl
@[simp] theorem State.afterReadLoc_b (s : State) (l : Loc) : (s.afterReadLoc l).b = s.b := by cases l <;> rfl
@[simp] theorem State.afterReadLoc_c (s : State) (l : Loc) : (s.afterReadLoc l).c = s.c := by cases l <;> rfl
@[simp] theorem State.afterReadLoc_d (s : State) (l : Loc) : (s.afterReadLoc l).d = s.d := by cases l <;> rfl
@[simp] theorem State.afterReadLoc_e (s : State) (l : Loc) : (s.afterReadLoc l).e = s.e := by cases l <;> rfl
@[simp] theorem State.afterReadLoc_h (s : State) (l : Loc) : (s.afterReadLoc l).h = s.h := by cases l <;> rfl
@[simp] theorem State.afterReadLoc_l (s : State) (l : Loc) : (s.afterReadLoc l).l = s.l := by cases l <;> rfl
@[simp] theorem State.afterReadLoc_sp (s : State) (l : Loc) : (s.afterReadLoc l).sp = s.sp := by cases l <;> rfl
@[simp] theorem State.afterReadLoc_pc (s : State) (l : Loc) : (s.afterReadLoc l).pc = s.pc := by cases l <;> rfl
@[simp] theorem State.afterReadLoc_ime (s : State) (l : Loc) : (s.afterReadLoc l).ime = s.ime := by cases l <;> rfl
@[simp] theorem State.afterReadLoc_halted (s : State) (l : Loc) : (s.afterReadLoc l).halted = s.halted := by cases l <;> rfl
@[simp] theorem State.afterReadLoc_pending (s : State) (l : Loc) : (s.afterReadLoc l).pending = s.pending := by cases l <;> rfl
@[simp] theorem State.afterReadLoc_cycles (s : State) (l : Loc) : (s.afterReadLoc l).cycles = s.cycles := by cases l <;> rfl
@[simp] theorem State.afterReadLoc_mem (s : State) (l : Loc) : (s.afterReadLoc l).mem = s.mem := by cases l <;> rfl
@[simp] theorem State.afterReadLoc_map (s : State) (l : Loc) : (s.afterReadLoc l).map = s.map := by cases l <;> rfl
@[simp] theorem State.afterReadLoc_fZ (s : State) (l : Loc) : (s.afterReadLoc l).fZ = s.fZ := by cases l <;> rfl
@[simp] theorem State.afterReadLoc_fN (s : State) (l : Loc) : (s.afterReadLoc l).fN = s.fN := by cases l <;> rfl
@[simp] theorem State.afterReadLoc_fH (s : State) (l : Loc) : (s.afterReadLoc l).fH = s.fH := by cases l <;> rfl
@[simp] theorem State.afterReadLoc_fC (s : State) (l : Loc) : (s.afterReadLoc l).fC = s.fC := by cases l <;> rfl
@[simp] theorem State.afterReadLoc_kind (s : State) (l : Loc) (x : Word) : (s.afterReadLoc l).kind x = s.kind x := by cases l <;> rfl
@[simp] theorem State.afterReadLoc_stored (s : State) (l : Loc) (x : Word) : (s.afterReadLoc l).stored x = s.stored x := by cases l <;> rfl
@[simp] theorem State.afterReadLoc_reg (s : State) (l : Loc) (r : Reg8) : (s.afterReadLoc l).reg r = s.reg r := by cases r <;> cases l <;> rfl
@[simp] theorem State.afterReadLoc_hl (s : State) (l : Loc) : (s.afterReadLoc l).hl = s.hl := by cases l <;> rfl
@[simp] theorem State.afterReadLoc_bc (s : State) (l : Loc) : (s.afterReadLoc l).bc = s.bc := by cases l <;> rfl
@[simp] theorem State.afterReadLoc_de (s : State) (l : Loc) : (s.afterReadLoc l).de = s.de := by cases l <;> rfl

@[simp] theorem State.afterSource_a (s : State) (q : Src) : (s.afterSource q).a = s.a := by rcases q with (_ | _) | _ <;> rfl
@[simp] theorem State.afterSource_f (s : State) (q : Src) : (s.afterSource q).f = s.f := by rcases q with (_ | _) | _ <;> rfl
@[simp] theorem State.afterSource_b (s : State) (q : Src) : (s.afterSource q).b = s.b := by rcases q with (_ | _) | _ <;> rfl
@[simp] theorem State.afterSource_c (s : State) (q : Src) : (s.afterSource q).c = s.c := by rcases q with (_ | _) | _ <;> rfl
@[simp] theorem State.afterSource_d (s : State) (q : Src) : (s.afterSource q).d = s.d := by rcases q with (_ | _) | _ <;> rfl
@[simp] theorem State.afterSource_e (s : State) (q : Src) : (s.afterSource q).e = s.e := by rcases q with (_ | _) | _ <;> rfl
@[simp] theorem State.afterSource_h (s : State) (q : Src) : (s.afterSource q).h = s.h := by rcases q with (_ | _) | _ <;> rfl
@[simp] theorem State.afterSource_l (s : State) (q : Src) : (s.afterSource q).l = s.l := by rcases q with (_ | _) | _ <;> rfl
@[simp] theorem State.afterSource_sp (s : State) (q : Src) : (s.afterSource q).sp = s.sp := by rcases q with (_ | _) | _ <;> rfl
@[simp] theorem State.afterSource_pc (s : State) (q : Src) : (s.afterSource q).pc = s.pc := by rcases q with (_ | _) | _ <;> rfl
@[simp] theorem State.afterSource_ime (s : State) (q : Src) : (s.afterSource q).ime = s.ime := by rcases q with (_ | _) | _ <;> rfl
@[simp] theorem State.afterSource_halted (s : State) (q : Src) : (s.afterSource q).halted = s.halted := by rcases q with (_ | _) | _ <;> rfl
@[simp] theorem State.afterSource_pending (s : State) (q : Src) : (s.afterSource q).pending = s.pending := by rcases q with (_ | _) | _ <;> rfl
@[simp] theorem State.afterSource_cycles (s : State) (q : Src) : (s.afterSource q).cycles = s.cycles := by rcases q with (_ | _) | _ <;> rfl
@[simp] theorem State.afterSource_mem (s : State) (q : Src) : (s.afterSource q).mem = s.mem := by rcases q with (_ | _) | _ <;> rfl
@[simp] theorem State.afterSource_map (s : State) (q : Src) : (s.afterSource q).map = s.map := by rcases q with (_ | _) | _ <;> rfl
@[simp] theorem State.afterSource_fZ (s : State) (q : Src) : (s.afterSource q).fZ = s.fZ := by rcases q with (_ | _) | _ <;> rfl
@[simp] theorem State.afterSource_fN (s : State) (q : Src) : (s.afterSource q).fN = s.fN := by rcases q with (_ | _) | _ <;> rfl
@[simp] theorem State.afterSource_fH (s : State) (q : Src) : (s.afterSource q).fH = s.fH := by rcases q with (_ | _) | _ <;> rfl
@[simp] theorem State.afterSource_fC (s : State) (q : Src) : (s.afterSource q).fC = s.fC := by rcases q with (_ | _) | _ <;> rfl
@[simp] theorem State.afterSource_kind (s : State) (q : Src) (x : Word) : (s.afterSource q).kind x = s.kind x := by rcases q with (_ | _) | _ <;> rfl
@[simp] theorem State.afterSource_stored (s : State) (q : Src) (x : Word) : (s.afterSource q).stored x = s.stored x := by rcases q with (_ | _) | _ <;> rfl
@[simp] theorem State.afterSource_reg (s : State) (q : Src) (r : Reg8) : (s.afterSource q).reg r = s.reg r := by cases r <;> rcases q with (_ | _) | _ <;> rfl
@[simp] theorem State.afterSource_hl (s : State) (q : Src) : (s.afterSource q).hl = s.hl := by rcases q with (_ | _) | _ <;> rfl
@[simp] theorem State.afterSource_bc (s : State) (q : Src) : (s.afterSource q).bc = s.bc := by rcases q with (_ | _) | _ <;> rfl
@[simp] theorem State.afterSource_de (s : State) (q : Src) : (s.afterSource q).de = s.de := by rcases q with (_ | _) | _ <;> rfl

@[simp] theorem State.writeByte_a (s : State) (x : Word) (v : Byte) : (s.writeByte x v).a = s.a := rfl
@[simp] theorem State.writeByte_f (s : State) (x : Word) (v : Byte) : (s.writeByte x v).f = s.f := rfl
@[simp] theorem State.writeByte_b (s : State) (x : Word) (v : Byte) : (s.writeByte x v).b = s.b := rfl
@[simp] theorem State.writeByte_c (s : State) (x : Word) (v : Byte) : (s.writeByte x v).c = s.c := rfl
@[simp] theorem State.writeByte_d (s : State) (x : Word) (v : Byte) : (s.writeByte x v).d = s.d := rfl
@[simp] theorem State.writeByte_e (s : State) (x : Word) (v : Byte) : (s.writeByte x v).e = s.e := rfl
@[simp] theorem State.writeByte_h (s : State) (x : Word) (v : Byte) : (s.writeByte x v).h = s.h := rfl
@[simp] theorem State.writeByte_l (s : State) (x : Word) (v : Byte) : (s.writeByte x v).l = s.l := rfl
@[simp] theorem State.writeByte_sp (s : State) (x : Word) (v : Byte) : (s.writeByte x v).sp = s.sp := rfl
@[simp] theorem State.writeByte_pc (s : State) (x : Word) (v : Byte) : (s.writeByte x v).pc = s.pc := rfl
@[simp] theorem State.writeByte_ime (s : State) (x : Word) (v : Byte) : (s.writeByte x v).ime = s.ime := rfl
@[simp] theorem State.writeByte_halted (s : State) (x : Word) (v : Byte) : (s.writeByte x v).halted = s.halted := rfl
@[simp] theorem State.writeByte_pending (s : State) (x : Word) (v : Byte) : (s.writeByte x v).pending = s.pending := rfl
@[simp] theorem State.writeByte_cycles (s : State) (x : Word) (v : Byte) : (s.writeByte x v).cycles = s.cycles := rfl
@[simp] theorem State.writeByte_mem (s : State) (x : Word) (v : Byte) : (s.writeByte x v).mem = if s.kind x = .ram then Memory.write s.mem x.toNat v else s.mem := rfl
@[simp] theorem State.writeByte_map (s : State) (x : Word) (v : Byte) : (s.writeByte x v).map = s.map := rfl
@[simp] theorem State.writeByte_bus (s : State) (x : Word) (v : Byte) : (s.writeByte x v).bus = if s.kind x = .device then .write x v :: s.bus else s.bus := rfl
@[simp] theorem State.writeByte_fZ (s : State) (x : Word) (v : Byte) : (s.writeByte x v).fZ = s.fZ := rfl
@[simp] theorem State.writeByte_fN (s : State) (x : Word) (v : Byte) : (s.writeByte x v).fN = s.fN := rfl
@[simp] theorem State.writeByte_fH (s : State) (x : Word) (v : Byte) : (s.writeByte x v).fH = s.fH := rfl
@[simp] theorem State.writeByte_fC (s : State) (x : Word) (v : Byte) : (s.writeByte x v).fC = s.fC := rfl
@[simp] theorem State.writeByte_reg (s : State) (x : Word) (v : Byte) (r : Reg8) : (s.writeByte x v).reg r = s.reg r := by cases r <;> rfl
@[simp] theorem State.writeByte_hl (s : State) (x : Word) (v : Byte) : (s.writeByte x v).hl = s.hl := rfl
@[simp] theorem State.writeByte_bc (s : State) (x : Word) (v : Byte) : (s.writeByte x v).bc = s.bc := rfl
@[simp] theorem State.writeByte_de (s : State) (x : Word) (v : Byte) : (s.writeByte x v).de = s.de := rfl

@[simp] theorem State.writeWord_a (s : State) (x v : Word) : (s.writeWord x v).a = s.a := rfl
@[simp] theorem State.writeWord_f (s : State) (x v : Word) : (s.writeWord x v).f = s.f := rfl
@[simp] theorem State.writeWord_b (s : State) (x v : Word) : (s.writeWord x v).b = s.b := rfl
@[simp] theorem State.writeWord_c (s : State) (x v : Word) : (s.writeWord x v).c = s.c := rfl
@[simp] theorem State.writeWord_d (s : State) (x v : Word) : (s.writeWord x v).d = s.d := rfl
@[simp] theorem State.writeWord_e (s : State) (x v : Word) : (s.writeWord x v).e = s.e := rfl
@[simp] theorem State.writeWord_h (s : State) (x v : Word) : (s.writeWord x v).h = s.h := rfl
@[simp] theorem State.writeWord_l (s : State) (x v : Word) : (s.writeWord x v).l = s.l := rfl
@[simp] theorem State.writeWord_sp (s : State) (x v : Word) : (s.writeWord x v).sp = s.sp := rfl
@[simp] theorem State.writeWord_pc (s : State) (x v : Word) : (s.writeWord x v).pc = s.pc := rfl
@[simp] theorem State.writeWord_ime (s : State) (x v : Word) : (s.writeWord x v).ime = s.ime := rfl
@[simp] theorem State.writeWord_halted (s : State) (x v : Word) : (s.writeWord x v).halted = s.halted := rfl
@[simp] theorem State.writeWord_pending (s : State) (x v : Word) : (s.writeWord x v).pending = s.pending := rfl
@[simp] theorem State.writeWord_cycles (s : State) (x v : Word) : (s.writeWord x v).cycles = s.cycles := rfl
@[simp] theorem State.writeWord_mem (s : State) (x v : Word) : (s.writeWord x v).mem = ((s.writeByte x (loByte v)).writeByte (x + 1#16) (hiByte v)).mem := rfl
@[simp] theorem State.writeWord_map (s : State) (x v : Word) : (s.writeWord x v).map = s.map := rfl
@[simp] theorem State.writeWord_bus (s : State) (x v : Word) : (s.writeWord x v).bus = ((s.writeByte x (loByte v)).writeByte (x + 1#16) (hiByte v)).bus := rfl
@[simp] theorem State.writeWord_fZ (s : State) (x v : Word) : (s.writeWord x v).fZ = s.fZ := rfl
@[simp] theorem State.writeWord_fN (s : State) (x v : Word) : (s.writeWord x v).fN = s.fN := rfl
@[simp] theorem State.writeWord_fH (s : State) (x v : Word) : (s.writeWord x v).fH = s.fH := rfl
@[simp] theorem State.writeWord_fC (s : State) (x v : Word) : (s.writeWord x v).fC = s.fC := rfl
@[simp] theorem State.writeWord_reg (s : State) (x v : Word) (r : Reg8) : (s.writeWord x v).reg r = s.reg r := by cases r <;> rfl
@[simp] theorem State.writeWord_hl (s : State) (x v : Word) : (s.writeWord x v).hl = s.hl := rfl
@[simp] theorem State.writeWord_bc (s : State) (x v : Word) : (s.writeWord x v).bc = s.bc := rfl
@[simp] theorem State.writeWord_de (s : State) (x v : Word) : (s.writeWord x v).de = s.de := rfl

@[simp] theorem State.push_a (s : State) (v : Word) : (s.push v).a = s.a := rfl
@[simp] theorem State.push_f (s : State) (v : Word) : (s.push v).f = s.f := rfl
@[simp] theorem State.push_b (s : State) (v : Word) : (s.push v).b = s.b := rfl
@[simp] theorem State.push_c (s : State) (v : Word) : (s.push v).c = s.c := rfl
@[simp] theorem State.push_d (s : State) (v : Word) : (s.push v).d = s.d := rfl
@[simp] theorem State.push_e (s : State) (v : Word) : (s.push v).e = s.e := rfl
@[simp] theorem State.push_h (s : State) (v : Word) : (s.push v).h = s.h := rfl
@[simp] theorem State.push_l (s : State) (v : Word) : (s.push v).l = s.l := rfl
@[simp] theorem State.push_sp (s : State) (v : Word) : (s.push v).sp = s.sp - 2#16 := rfl
@[simp] theorem State.push_pc (s : State) (v : Word) : (s.push v).pc = s.pc := rfl
@[simp] theorem State.push_ime (s : State) (v : Word) : (s.push v).ime = s.ime := rfl
@[simp] theorem State.push_halted (s : State) (v : Word) : (s.push v).halted = s.halted := rfl
@[simp] theorem State.push_pending (s : State) (v : Word) : (s.push v).pending = s.pending := rfl
@[simp] theorem State.push_cycles (s : State) (v : Word) : (s.push v).cycles = s.cycles := rfl
@[simp] theorem State.push_mem (s : State) (v : Word) : (s.push v).mem = (s.writeWord (s.sp - 2#16) v).mem := rfl
@[simp] theorem State.push_map (s : State) (v : Word) : (s.push v).map = s.map := rfl
@[simp] theorem State.push_bus (s : State) (v : Word) : (s.push v).bus = (s.writeWord (s.sp - 2#16) v).bus := rfl
@[simp] theorem State.push_fZ (s : State) (v : Word) : (s.push v).fZ = s.fZ := rfl
@[simp] theorem State.push_fN (s : State) (v : Word) : (s.push v).fN = s.fN := rfl
@[simp] theorem State.push_fH (s : State) (v : Word) : (s.push v).fH = s.fH := rfl
@[simp] theorem State.push_fC (s : State) (v : Word) : (s.push v).fC = s.fC := rfl
@[simp] theorem State.push_reg (s : State) (v : Word) (r : Reg8) : (s.push v).reg r = s.reg r := by cases r <;> rfl
@[simp] theorem State.push_hl (s : State) (v : Word) : (s.push v).hl = s.hl := rfl
@[simp] theorem State.push_bc (s : State) (v : Word) : (s.push v).bc = s.bc := rfl
@[simp] theorem State.push_de (s : State) (v : Word) : (s.push v).de = s.de := rfl

@[simp] theorem State.dropWord_a (s : State) : (s.dropWord).a = s.a := rfl
@[simp] theorem State.dropWord_f (s : State) : (s.dropWord).f = s.f := rfl
@[simp] theorem State.dropWord_b (s : State) : (s.dropWord).b = s.b := rfl
@[simp] theorem State.dropWord_c (s : State) : (s.dropWord).c = s.c := rfl
@[simp] theorem State.dropWord_d (s : State) : (s.dropWord).d = s.d := rfl
@[simp] theorem State.dropWord_e (s : State) : (s.dropWord).e = s.e := rfl
@[simp] theorem State.dropWord_h (s : State) : (s.dropWord).h = s.h := rfl
@[simp] theorem State.dropWord_l (s : State) : (s.dropWord).l = s.l := rfl
@[simp] theorem State.dropWord_sp (s : State) : (s.dropWord).sp = s.sp + 2#16 := rfl
@[simp] theorem State.dropWord_pc (s : State) : (s.dropWord).pc = s.pc := rfl
@[simp] theorem State.dropWord_ime (s : State) : (s.dropWord).ime = s.ime := rfl
@[simp] theorem State.dropWord_halted (s : State) : (s.dropWord).halted = s.halted := rfl
@[simp] theorem State.dropWord_pending (s : State) : (s.dropWord).pending = s.pending := rfl
@[simp] theorem State.dropWord_cycles (s : State) : (s.dropWord).cycles = s.cycles := rfl
@[simp] theorem State.dropWord_mem (s : State) : (s.dropWord).mem = s.mem := rfl
@[simp] theorem State.dropWord_map (s : State) : (s.dropWord).map = s.map := rfl
@[simp] theorem State.dropWord_bus (s : State) : (s.dropWord).bus = (s.afterReadWord s.sp).bus := rfl
@[simp] theorem State.dropWord_fZ (s : State) : (s.dropWord).fZ = s.fZ := rfl
@[simp] theorem State.dropWord_fN (s : State) : (s.dropWord).fN = s.fN := rfl
@[simp] theorem State.dropWord_fH (s : State) : (s.dropWord).fH = s.fH := rfl
@[simp] theorem State.dropWord_fC (s : State) : (s.dropWord).fC = s.fC := rfl
@[simp] theorem State.dropWord_kind (s : State) (x : Word) : (s.dropWord).kind x = s.kind x := rfl
@[simp] theorem State.dropWord_stored (s : State) (x : Word) : (s.dropWord).stored x = s.stored x := rfl
@[simp] theorem State.dropWord_reg (s : State) (r : Reg8) : (s.dropWord).reg r = s.reg r := by cases r <;> rfl
@[simp] theorem State.dropWord_hl (s : State) : (s.dropWord).hl = s.hl := rfl
@[simp] theorem State.dropWord_bc (s : State) : (s.dropWord).bc = s.bc := rfl
@[simp] theorem State.dropWord_de (s : State) : (s.dropWord).de = s.de := rfl

@[simp] theorem State.advance_a (s : State) (len cost : Nat) : (s.advance len cost).a = s.a := rfl
@[simp] theorem State.advance_f (s : State) (len cost : Nat) : (s.advance len cost).f = s.f := rfl
@[simp] theorem State.advance_b (s : State) (len cost : Nat) : (s.advance len cost).b = s.b := rfl
@[simp] theorem State.advance_c (s : State) (len cost : Nat) : (s.advance len cost).c = s.c := rfl
@[simp] theorem State.advance_d (s : State) (len cost : Nat) : (s.advance len cost).d = s.d := rfl
@[simp] theorem State.advance_e (s : State) (len cost : Nat) : (s.advance len cost).e = s.e := rfl
@[simp] theorem State.advance_h (s : State) (len cost : Nat) : (s.advance len cost).h = s.h := rfl
@[simp] theorem State.advance_l (s : State) (len cost : Nat) : (s.advance len cost).l = s.l := rfl
@[simp] theorem State.advance_sp (s : State) (len cost : Nat) : (s.advance len cost).sp = s.sp := rfl
@[simp] theorem State.advance_pc (s : State) (len cost : Nat) : (s.advance len cost).pc = s.next len := rfl
@[simp] theorem State.advance_ime (s : State) (len cost : Nat) : (s.advance len cost).ime = s.ime := rfl
@[simp] theorem State.advance_halted (s : State) (len cost : Nat) : (s.advance len cost).halted = s.halted := rfl
@[simp] theorem State.advance_pending (s : State) (len cost : Nat) : (s.advance len cost).pending = s.pending := rfl
@[simp] theorem State.advance_cycles (s : State) (len cost : Nat) : (s.advance len cost).cycles = s.cycles + cost := rfl
@[simp] theorem State.advance_mem (s : State) (len cost : Nat) : (s.advance len cost).mem = s.mem := rfl
@[simp] theorem State.advance_map (s : State) (len cost : Nat) : (s.advance len cost).map = s.map := rfl
@[simp] theorem State.advance_bus (s : State) (len cost : Nat) : (s.advance len cost).bus = s.bus := rfl
@[simp] theorem State.advance_fZ (s : State) (len cost : Nat) : (s.advance len cost).fZ = s.fZ := rfl
@[simp] theorem State.advance_fN (s : State) (len cost : Nat) : (s.advance len cost).fN = s.fN := rfl
@[simp] theorem State.advance_fH (s : State) (len cost : Nat) : (s.advance len cost).fH = s.fH := rfl
@[simp] theorem State.advance_fC (s : State) (len cost : Nat) : (s.advance len cost).fC = s.fC := rfl
@[simp] theorem State.advance_kind (s : State) (len cost : Nat) (x : Word) : (s.advance len cost).kind x = s.kind x := rfl
@[simp] theorem State.advance_stored (s : State) (len cost : Nat) (x : Word) : (s.advance len cost).stored x = s.stored x := rfl
@[simp] theorem State.advance_readByte (s : State) (len cost : Nat) (x : Word) : (s.advance len cost).readByte x = s.readByte x := rfl
@[simp] theorem State.advance_reg (s : State) (len cost : Nat) (r : Reg8) : (s.advance len cost).reg r = s.reg r := by cases r <;> rfl
@[simp] theorem State.advance_hl (s : State) (len cost : Nat) : (s.advance len cost).hl = s.hl := rfl
@[simp] theorem State.advance_bc (s : State) (len cost : Nat) : (s.advance len cost).bc = s.bc := rfl
@[simp] theorem State.advance_de (s : State) (len cost : Nat) : (s.advance len cost).de = s.de := rfl

@[simp] theorem State.jump_a (s : State) (target : Word) (cost : Nat) : (s.jump target cost).a = s.a := rfl
@[simp] theorem State.jump_f (s : State) (target : Word) (cost : Nat) : (s.jump target cost).f = s.f := rfl
@[simp] theorem State.jump_b (s : State) (target : Word) (cost : Nat) : (s.jump target cost).b = s.b := rfl
@[simp] theorem State.jump_c (s : State) (target : Word) (cost : Nat) : (s.jump target cost).c = s.c := rfl
@[simp] theorem State.jump_d (s : State) (target : Word) (cost : Nat) : (s.jump target cost).d = s.d := rfl
@[simp] theorem State.jump_e (s : State) (target : Word) (cost : Nat) : (s.jump target cost).e = s.e := rfl
@[simp] theorem State.jump_h (s : State) (target : Word) (cost : Nat) : (s.jump target cost).h = s.h := rfl
@[simp] theorem State.jump_l (s : State) (target : Word) (cost : Nat) : (s.jump target cost).l = s.l := rfl
@[simp] theorem State.jump_sp (s : State) (target : Word) (cost : Nat) : (s.jump target cost).sp = s.sp := rfl
@[simp] theorem State.jump_pc (s : State) (target : Word) (cost : Nat) : (s.jump target cost).pc = target := rfl
@[simp] theorem State.jump_ime (s : State) (target : Word) (cost : Nat) : (s.jump target cost).ime = s.ime := rfl
@[simp] theorem State.jump_halted (s : State) (target : Word) (cost : Nat) : (s.jump target cost).halted = s.halted := rfl
@[simp] theorem State.jump_pending (s : State) (target : Word) (cost : Nat) : (s.jump target cost).pending = s.pending := rfl
@[simp] theorem State.jump_cycles (s : State) (target : Word) (cost : Nat) : (s.jump target cost).cycles = s.cycles + cost := rfl
@[simp] theorem State.jump_mem (s : State) (target : Word) (cost : Nat) : (s.jump target cost).mem = s.mem := rfl
@[simp] theorem State.jump_map (s : State) (target : Word) (cost : Nat) : (s.jump target cost).map = s.map := rfl
@[simp] theorem State.jump_bus (s : State) (target : Word) (cost : Nat) : (s.jump target cost).bus = s.bus := rfl
@[simp] theorem State.jump_fZ (s : State) (target : Word) (cost : Nat) : (s.jump target cost).fZ = s.fZ := rfl
@[simp] theorem State.jump_fN (s : State) (target : Word) (cost : Nat) : (s.jump target cost).fN = s.fN := rfl
@[simp] theorem State.jump_fH (s : State) (target : Word) (cost : Nat) : (s.jump target cost).fH = s.fH := rfl
@[simp] theorem State.jump_fC (s : State) (target : Word) (cost : Nat) : (s.jump target cost).fC = s.fC := rfl
@[simp] theorem State.jump_kind (s : State) (target : Word) (cost : Nat) (x : Word) : (s.jump target cost).kind x = s.kind x := rfl
@[simp] theorem State.jump_stored (s : State) (target : Word) (cost : Nat) (x : Word) : (s.jump target cost).stored x = s.stored x := rfl
@[simp] theorem State.jump_readByte (s : State) (target : Word) (cost : Nat) (x : Word) : (s.jump target cost).readByte x = s.readByte x := rfl
@[simp] theorem State.jump_reg (s : State) (target : Word) (cost : Nat) (r : Reg8) : (s.jump target cost).reg r = s.reg r := by cases r <;> rfl
@[simp] theorem State.jump_hl (s : State) (target : Word) (cost : Nat) : (s.jump target cost).hl = s.hl := rfl
@[simp] theorem State.jump_bc (s : State) (target : Word) (cost : Nat) : (s.jump target cost).bc = s.bc := rfl
@[simp] theorem State.jump_de (s : State) (target : Word) (cost : Nat) : (s.jump target cost).de = s.de := rfl

/-- Writing a register and reading one. -/
@[simp] theorem State.setReg_reg (s : State) (r : Reg8) (v : Byte) (q : Reg8) :
    (s.setReg r v).reg q = if q = r then v else s.reg q := by
  cases r <;> cases q <;> rfl

/-- Writing a pair and reading one: a pair is the live composition of its halves (R21). -/
@[simp] theorem State.setPair_pair (s : State) (p : Pair) (v : Word) (q : Pair) :
    (s.setPair p v).pair q = if q = p then v else s.pair q := by
  cases p <;> cases q <;> simp [State.pair, State.hl, State.bc, State.de]

/-- The high byte of a word read is the byte at the higher address, read after the lower one (R52). -/
@[simp] theorem State.hiByte_readWord (s : State) (x : Word) :
    hiByte (s.readWord x) = (s.afterRead x).readByte (x + 1#16) := by
  simp [State.readWord]

/-- The low byte of a word read is the byte at the lower address (R52). -/
@[simp] theorem State.loByte_readWord (s : State) (x : Word) : loByte (s.readWord x) = s.readByte x := by
  simp [State.readWord]

/-- Flag results leave F's hard-wired bits zero (R27, R128). -/
@[simp] theorem State.setFlags_low (u : FlagUpdate) (s : State) : (s.setFlags u).f &&& 0x0F#8 = 0#8 :=
  flagByte_low _ _ _ _

/-- A word pushed to RAM reads back at the new SP (R22, R52). -/
theorem State.readWord_push (s : State) (h : s.kind (s.sp - 2#16) = .ram) (h' : s.kind (s.sp - 2#16 + 1#16) = .ram)
    (v : Word) : (s.push v).readWord (s.sp - 2#16) = v := by
  rw [State.readWord, State.afterRead_of_ram (by simpa using h), State.readByte_push s h h', State.readByte_push s h h',
    if_pos rfl, if_neg (word_succ_ne _).symm, if_pos rfl, joinBytes_hi_lo]

/-- A byte read after a delivery: as after the push of PC (R308). -/
theorem State.readByte_deliver (v : Word) (s : State) (x : Word) :
    (deliver v s).readByte x = (s.push s.pc).readByte x := rfl

/-- Every field a delivery leaves or writes, apart from storage and what devices see (R308). -/
theorem deliver_fields (v : Word) (s : State) :
    { deliver v s with mem := s.mem, bus := s.bus } =
      { s with
        halted := false, ime := false, pending := none, sp := s.sp - 2#16, pc := v,
        cycles := s.cycles + deliveryCost } := rfl

/-- Everything a return from an interrupt does (R270). -/
theorem returnFromInterrupt_eq (cost : Nat) (s : State) :
    returnFromInterrupt cost s =
      { s.afterReadWord s.sp with
        ime := true, sp := s.sp + 2#16, pc := s.readWord s.sp, cycles := s.cycles + cost } := rfl

/-- Writing HL and reading it. -/
@[simp] theorem State.setHL_hl (s : State) (v : Word) : (s.setHL v).hl = v := by
  simp [State.hl]

end Sys2Proof.Machine
end

