-- ==== Sys2Proof/Laws/Forms.lean ====
section
/-! SUPPORT. `exec` by form: what an instruction does depends on its form alone, so a proof about all 512 constructors
splits on the forms instead. Then what `exec` and `step` can do, said once. -/

namespace Sys2Proof.Machine

/-- The meaning of a form, over the same shared operations. -/
def execForm (f : Form) (s : State) : Result :=
  match f with
  | .ldRegReg dst src => loadRegReg dst src s
  | .ldRegImm dst d8 => loadRegImm dst d8 s
  | .ldRegAtHL dst => loadRegAtHL dst s
  | .ldAtHLReg src => storeAtHL (s.reg src) 1 (costOf (.ldAtHLReg src)) s
  | .ldAtHLImm d8 => storeAtHL d8 2 (costOf (.ldAtHLImm d8)) s
  | .ldAAtBC => loadA s.bc 1 (costOf .ldAAtBC) s
  | .ldAAtDE => loadA s.de 1 (costOf .ldAAtDE) s
  | .ldAtBCA => storeA s.bc 1 (costOf .ldAtBCA) s
  | .ldAtDEA => storeA s.de 1 (costOf .ldAtDEA) s
  | .ldAAtAbs a16 => loadA a16 3 (costOf (.ldAAtAbs a16)) s
  | .ldAtAbsA a16 => storeA a16 3 (costOf (.ldAtAbsA a16)) s
  | .ldhAAt a8 => loadA (highPage a8) 2 (costOf (.ldhAAt a8)) s
  | .ldhAtA a8 => storeA (highPage a8) 2 (costOf (.ldhAtA a8)) s
  | .ldAAtC => loadA (highPage s.c) 1 (costOf .ldAAtC) s
  | .ldAtCA => storeA (highPage s.c) 1 (costOf .ldAtCA) s
  | .ldAtHLIncA => storeAMoveHL (s.hl + 1#16) (costOf .ldAtHLIncA) s
  | .ldAtHLDecA => storeAMoveHL (s.hl - 1#16) (costOf .ldAtHLDecA) s
  | .ldAAtHLInc => loadAMoveHL (s.hl + 1#16) (costOf .ldAAtHLInc) s
  | .ldAAtHLDec => loadAMoveHL (s.hl - 1#16) (costOf .ldAAtHLDec) s
  | .ldPairImm p d16 => loadPairImm p d16 s
  | .ldAtAbsSP a16 => storeSP a16 s
  | .ldSPHL => loadSPFromHL s
  | .ldHLSPPlus e8 => loadHLFromSPPlus e8 s
  | .push q => pushPair q s
  | .pop q => popPair q s
  | .alu .cp src => compareA src s
  | .alu op src => accumulate op src s
  | .incLoc l => incrementAt l s
  | .decLoc l => decrementAt l s
  | .daa => decimalAdjust s
  | .cpl => complementA s
  | .scf => changeCarry scfFlags (costOf .scf) s
  | .ccf => changeCarry (ccfFlags s.fC) (costOf .ccf) s
  | .addHL p => addToHL p s
  | .incPair p => incrementPair p s
  | .decPair p => decrementPair p s
  | .addSP e8 => addToSP e8 s
  | .rlca => rotateA (rlc8 s.a) (costOf .rlca) s
  | .rrca => rotateA (rrc8 s.a) (costOf .rrca) s
  | .rla => rotateA (rl8 s.a s.fC) (costOf .rla) s
  | .rra => rotateA (rr8 s.a s.fC) (costOf .rra) s
  | .rot op l => rotateAt op l s
  | .bit n l => testBit n l s
  | .res n l => resetBit n l s
  | .set n l => setBit n l s
  | .jp a16 => jumpTo a16 (costOf (.jp a16)) s
  | .jpIf cc a16 => jumpIf cc a16 s
  | .jpHL => jumpTo s.hl (costOf .jpHL) s
  | .jr e8 => jumpRelative e8 (costOf (.jr e8)) s
  | .jrIf cc e8 => jumpRelativeIf cc e8 s
  | .call a16 => callTo a16 3 (costOf (.call a16)) s
  | .callIf cc a16 => callIf cc a16 s
  | .ret => returnTo (costOf .ret) s
  | .retIf cc => returnIf cc s
  | .reti => returnEnabling s
  | .rst t => restart t s
  | .nop => noOperation 1 (costOf .nop) s
  | .halt => haltCore s
  | .stop ignored => noOperation 2 (costOf (.stop ignored)) s
  | .di => setInterruptEnable false (costOf .di) s
  | .ei => setInterruptEnable true (costOf .ei) s
  | .prefixed ext => runExtended ext s
  | .undefinedByte opcode => raiseUnknownOpcode opcode s

/-- An instruction's meaning is its form's. -/
theorem exec_eq_execForm (i : Instr) (s : State) : exec i s = execForm i.form s := by
  cases i <;> rfl

/-- The extended form of the byte after the prefix (R90). -/
def extendedForm (ext : Byte) : Form :=
  match (ext.extractLsb' 6 2).toNat with
  | 0 => .rot (rotOfCode (ext.extractLsb' 3 3)) (locOfCode (ext.extractLsb' 0 3))
  | 1 => .bit (ext.extractLsb' 3 3) (locOfCode (ext.extractLsb' 0 3))
  | 2 => .res (ext.extractLsb' 3 3) (locOfCode (ext.extractLsb' 0 3))
  | _ => .set (ext.extractLsb' 3 3) (locOfCode (ext.extractLsb' 0 3))

/-- The prefix with the byte after it means what the extended form of that byte means (R285). -/
theorem runExtended_eq_execForm (ext : Byte) (s : State) : runExtended ext s = execForm (extendedForm ext) s := by
  unfold runExtended extendedForm
  generalize (ext.extractLsb' 6 2).toNat = g
  match g with
  | 0 => rfl
  | 1 => rfl
  | 2 => rfl
  | _ + 3 => rfl

/-- The extended form of a byte is no prefix, no undefined byte. -/
theorem extendedForm_cases (ext : Byte) :
    (∃ op l, extendedForm ext = .rot op l) ∨ (∃ n l, extendedForm ext = .bit n l) ∨
    (∃ n l, extendedForm ext = .res n l) ∨ (∃ n l, extendedForm ext = .set n l) := by
  unfold extendedForm
  generalize (ext.extractLsb' 6 2).toNat = g
  match g with
  | 0 => exact .inl ⟨_, _, rfl⟩
  | 1 => exact .inr (.inl ⟨_, _, rfl⟩)
  | 2 => exact .inr (.inr (.inl ⟨_, _, rfl⟩))
  | _ + 3 => exact .inr (.inr (.inr ⟨_, _, rfl⟩))

/-- Every form but an undefined byte answers a next state; nothing in `exec` refuses (R303). -/
theorem execForm_next {f : Form} (h : f.isUndefined = false) (s : State) : ∃ t, execForm f s = .next t := by
  have extended : ∀ ext, ∃ t, execForm (extendedForm ext) s = .next t := fun ext => by
    rcases extendedForm_cases ext with ⟨_, _, e⟩ | ⟨_, _, e⟩ | ⟨_, _, e⟩ | ⟨_, _, e⟩ <;> rw [e] <;> exact ⟨_, rfl⟩
  cases f with
  | alu op src => cases op <;> exact ⟨_, rfl⟩
  | jpIf cc a16 => simp only [execForm, jumpIf]; split <;> exact ⟨_, rfl⟩
  | jrIf cc e8 => simp only [execForm, jumpRelativeIf]; split <;> exact ⟨_, rfl⟩
  | callIf cc a16 => simp only [execForm, callIf]; split <;> exact ⟨_, rfl⟩
  | retIf cc => simp only [execForm, returnIf]; split <;> exact ⟨_, rfl⟩
  | prefixed ext => rw [execForm, runExtended_eq_execForm]; exact extended ext
  | undefinedByte opcode => cases h
  | _ => exact ⟨_, rfl⟩

/-- What `step` can do, said once (R300). -/
theorem step_cases (s : State) :
    (Config.cycleLimit ≤ s.cycles ∧ step s = .refused .cycleCounterFull) ∨
    (s.cycles < Config.cycleLimit ∧ ∃ v, s.pending = some v ∧ s.ime = true ∧ step s = .next (deliver v s)) ∨
    (s.cycles < Config.cycleLimit ∧ (s.pending = none ∨ s.ime = false) ∧ s.halted = true ∧
      step s = .next (haltedStep s)) ∨
    (s.fetches ∧ step s = exec (fetchInstr s) (fetched s)) := by
  by_cases hc : Config.cycleLimit ≤ s.cycles
  · exact .inl ⟨hc, by simp [step, boundary, hc]⟩
  · have hlt : s.cycles < Config.cycleLimit := by omega
    refine .inr ?_
    cases hp : s.pending with
    | none =>
      cases hh : s.halted with
      | true => exact .inr (.inl ⟨hlt, .inl rfl, rfl, by simp [step, boundary, hc, hp, hh]⟩)
      | false => exact .inr (.inr ⟨⟨hlt, .inl hp, hh⟩, by simp [step, boundary, hc, hp, hh]⟩)
    | some v =>
      cases hi : s.ime with
      | true => exact .inl ⟨hlt, v, rfl, rfl, by simp [step, boundary, hc, hp, hi]⟩
      | false =>
        cases hh : s.halted with
        | true => exact .inr (.inl ⟨hlt, .inr rfl, rfl, by simp [step, boundary, hc, hp, hi, hh]⟩)
        | false => exact .inr (.inr ⟨⟨hlt, .inr hi, hh⟩, by simp [step, boundary, hc, hp, hi, hh]⟩)

end Sys2Proof.Machine
end

