-- ==== Sys2Proof/Laws/Claims.lean ====
section
/-! SUPPORT. The helpers of the statements against the model's own operations: the arithmetic of the one is the bit
fields of the other. None of these is a simp lemma: cite them. -/

namespace Sys2Proof.Claims

open Sys2Proof.Machine

theorem low_eq_loByte (v : Word) : low v = loByte v := by
  apply BitVec.eq_of_toNat_eq
  simp [low, loByte, BitVec.extractLsb'_toNat]

theorem high_eq_hiByte (v : Word) : high v = hiByte v := by
  apply BitVec.eq_of_toNat_eq
  simp [high, hiByte, BitVec.extractLsb'_toNat, Nat.shiftRight_eq_div_pow]

theorem toNat_joinBytes (hi lo : Byte) : (joinBytes hi lo).toNat = 256 * hi.toNat + lo.toNat := by
  rw [joinBytes, BitVec.toNat_append, ← Nat.shiftLeft_add_eq_or_of_lt lo.isLt, Nat.shiftLeft_eq]
  omega

theorem highPage_eq_ofNat (c : Byte) : BitVec.ofNat 16 (0xFF00 + c.toNat) = highPage c := by
  apply BitVec.eq_of_toNat_eq
  simp [highPage, zext16]

theorem condHolds_iff (cc : Cond) (s : State) : condHolds cc s ↔ s.cond cc = true := by
  cases cc <;> simp [condHolds, State.cond]

-- What devices have seen, and what storage holds, access by access

theorem seenBy_nil (s : State) : seenBy s [] = s.bus := rfl

/-- The first access is seen first, if it is a device's. -/
theorem seenBy_cons (s : State) (x : Access) (xs : List Access) :
    seenBy s (x :: xs) =
      seenBy { s with bus := if s.kind x.address = .device then x :: s.bus else s.bus } xs := by
  have hk : ∀ y : Access,
      ({ s with bus := if s.kind x.address = .device then x :: s.bus else s.bus } : State).kind y.address =
        s.kind y.address := fun _ => rfl
  simp only [seenBy, hk, List.filter_cons, decide_eq_true_eq]
  split <;> simp

theorem seenBy_append (s : State) (xs ys : List Access) :
    seenBy s (xs ++ ys) = seenBy { s with bus := seenBy s xs } ys := by
  simp only [seenBy, List.filter_append, List.reverse_append, List.append_assoc]
  rfl

theorem seenBy_read (s : State) (a : Word) (xs : List Access) : seenBy s (.read a :: xs) = seenBy (s.afterRead a) xs :=
  seenBy_cons s (.read a) xs

theorem seenBy_write (s : State) (a : Word) (v : Byte) (xs : List Access) :
    seenBy s (.write a v :: xs) = seenBy (s.writeByte a v) xs :=
  seenBy_cons s (.write a v) xs

theorem readNext_nil (s : State) (x : Word) : readNext s [] x = s.readByte x := rfl

theorem readNext_read (s : State) (a : Word) (xs : List Access) (x : Word) :
    readNext s (.read a :: xs) x = readNext (s.afterRead a) xs x := by
  rw [readNext, seenBy_read]
  rfl

theorem wordAt_eq_readWord (s : State) (x : Word) : wordAt s x = s.readWord x := by
  apply BitVec.eq_of_toNat_eq
  rw [State.readWord, toNat_joinBytes, wordAt, readNext_read, readNext_nil, BitVec.toNat_ofNat]
  have := ((s.afterRead x).readByte (x + 1#16)).isLt
  have := (s.readByte x).isLt
  omega

theorem storedAfter_nil (s : State) (x : Word) : storedAfter s [] x = s.stored x := rfl

theorem storedAfter_read (s : State) (a : Word) (xs : List Access) (x : Word) :
    storedAfter s (.read a :: xs) x = storedAfter s xs x := rfl

theorem storedAfter_write (s : State) (a : Word) (v : Byte) (xs : List Access) (x : Word) :
    storedAfter s (.write a v :: xs) x = if s.kind a = .ram ∧ x = a then v else storedAfter s xs x := by
  by_cases h : s.kind a = .ram
  · by_cases hx : x = a
    · simp [storedAfter, ramStore, h, hx]
    · simp [storedAfter, ramStore, h, hx, List.lookup_cons, beq_eq_false_iff_ne.2 hx]
  · simp [storedAfter, ramStore, h]

/-- A word write, byte by byte, in the form of `State.stored_writeWord`. -/
theorem storedAfter_wordStores (s : State) (a v x : Word) :
    storedAfter s (wordStores a v) x = (s.writeWord a v).stored x := by
  rw [wordStores, storedAfter_write, storedAfter_write, storedAfter_nil, State.stored_writeWord, low_eq_loByte,
    high_eq_hiByte]
  by_cases h1 : x = a + 1#16
  · simp [h1]
  · simp [h1]

-- What each memory operation becomes

/-- An instruction is a memory operation and an update of the other fields: `u` is the state after the operation, `t` the
state after the whole. -/
theorem Becomes.update {s u t post : State} {accesses : List Access} (hu : Becomes s u s accesses)
    (hmem : t.mem = u.mem) (hbus : t.bus = u.bus)
    (hrest : { t with mem := s.mem, bus := s.bus } = { post with mem := s.mem, bus := s.bus }) :
    Becomes s t post accesses :=
  ⟨hrest, hbus.trans hu.2.1, fun x => by rw [← hu.2.2 x, State.stored, State.stored, hmem]⟩

theorem becomes_refl (s : State) : Becomes s s s [] := ⟨rfl, rfl, fun _ => rfl⟩

theorem becomes_afterRead (s : State) (a : Word) : Becomes s (s.afterRead a) s [.read a] :=
  ⟨rfl, (seenBy_read s a []).symm, fun _ => rfl⟩

theorem becomes_afterReadWord (s : State) (a : Word) : Becomes s (s.afterReadWord a) s (wordReads a) :=
  ⟨rfl, by rw [wordReads, seenBy_read, seenBy_read]; rfl, fun _ => rfl⟩

theorem becomes_writeByte (s : State) (a : Word) (v : Byte) : Becomes s (s.writeByte a v) s [.write a v] :=
  ⟨rfl, (seenBy_write s a v []).symm, fun x => by rw [State.stored_writeByte, storedAfter_write]; rfl⟩

/-- Exactly one read followed by one write at the same address (20_memory.md R55). -/
theorem becomes_readModifyWrite (s : State) (a : Word) (v : Byte) :
    Becomes s ((s.afterRead a).writeByte a v) s [.read a, .write a v] :=
  ⟨rfl, by rw [seenBy_read, seenBy_write]; rfl, fun x => by
    rw [storedAfter_read, storedAfter_write, State.stored_writeByte]; rfl⟩

theorem becomes_writeWord (s : State) (a v : Word) : Becomes s (s.writeWord a v) s (wordStores a v) :=
  ⟨rfl, by rw [wordStores, seenBy_write, seenBy_write, low_eq_loByte, high_eq_hiByte]; rfl,
    fun x => (storedAfter_wordStores s a v x).symm⟩

/-- A delivery (60_exceptions.md R308). -/
theorem becomes_deliver (v : Word) (s : State) :
    Becomes s (deliver v s)
      { s with
        halted := false, ime := false, pending := none, sp := s.sp - 2#16, pc := v, cycles := s.cycles + deliveryCost }
      (wordStores (s.sp - 2#16) s.pc) :=
  let k := becomes_writeWord { s with sp := s.sp - 2#16 } (s.sp - 2#16) s.pc
  ⟨deliver_fields v s, k.2.1, k.2.2⟩

/-- A return from an interrupt (46_control.md R270). -/
theorem becomes_returnFromInterrupt (cost : Nat) (s : State) :
    Becomes s (returnFromInterrupt cost s)
      { s with ime := true, sp := s.sp + 2#16, pc := s.readWord s.sp, cycles := s.cycles + cost } (wordReads s.sp) := by
  rw [returnFromInterrupt_eq]
  exact (becomes_afterReadWord s s.sp).update rfl rfl rfl

theorem ramStore_of_map {s t : State} (h : t.map = s.map) : ramStore t = ramStore s := by
  have hk : t.kind = s.kind := by
    unfold State.kind
    rw [h]
  funext x
  cases x <;> simp only [ramStore, hk]

theorem seenBy_of_eq {s t : State} (hm : t.map = s.map) (hb : t.bus = s.bus) (xs : List Access) :
    seenBy t xs = seenBy s xs := by
  have hk : t.kind = s.kind := by
    unfold State.kind
    rw [hm]
  simp only [seenBy, hk, hb]

/-- Accesses made one after the other, where the first are reads or the last are: two claims of `Becomes` join. -/
theorem Becomes.trans {s t u p q post : State} {xs ys : List Access} (h : Becomes s t p xs) (k : Becomes t u q ys)
    (hmap : t.map = s.map) (hreads : (∀ x ∈ xs, ramStore s x = none) ∨ ∀ y ∈ ys, ramStore s y = none)
    (hrest : { q with mem := s.mem, bus := s.bus } = { post with mem := s.mem, bus := s.bus }) :
    Becomes s u post (xs ++ ys) := by
  refine ⟨(congrArg (fun w : State => { w with mem := s.mem, bus := s.bus }) k.1).trans hrest, ?_, fun x => ?_⟩
  · rw [k.2.1, seenBy_append]
    exact seenBy_of_eq (s := { s with bus := seenBy s xs }) hmap h.2.1 ys
  · rw [k.2.2 x, storedAfter, storedAfter, ramStore_of_map hmap, h.2.2 x, storedAfter, List.filterMap_append]
    rcases hreads with hr | hr
    · rw [List.filterMap_eq_nil_iff.2 hr]
      rfl
    · rw [List.filterMap_eq_nil_iff.2 hr, List.append_nil]
      rfl

/-- Reading a list of addresses: devices see those reads, and nothing else changes. -/
theorem readInOrder_state (xs : List Word) (s : State) :
    (readInOrder xs s).2 = { s with bus := seenBy s (xs.map .read) } := by
  induction xs generalizing s with
  | nil => rfl
  | cons a rest ih =>
    rw [List.map_cons, seenBy_read]
    exact ih (s.afterRead a)

/-- Fetching: devices see the reads of the instruction's bytes, and nothing else changes. -/
theorem fetched_eq_seenBy (s : State) : fetched s = { s with bus := seenBy s ((fetchAddresses s).map .read) } :=
  readInOrder_state _ s

end Sys2Proof.Claims
end

