-- ==== Sys2Proof/Laws/PerInstr.lean ====
section
/-! SUPPORT. Facts about every instruction as syntax, one lemma per constructor. -/

namespace Sys2Proof.Laws.EncodedLength

/-- The encoding of an instruction has the length that its byte 0 alone gives it (R80, R88). -/
def Statement (i : Instr) : Prop := (encode i).length = instrLength ((encode i).getD 0 0#8)

/-- The statement from the bytes written out. -/
theorem of_bytes {i : Instr} {b0 : Byte} {rest : List Byte} (bytes : encode i = b0 :: rest)
    (len : instrLength b0 = rest.length + 1) : Statement i := by
  rw [Statement, bytes]
  exact len.symm

theorem nop : Statement .nop := of_bytes (b0 := 0x00#8) (rest := []) rfl rfl
theorem ld_BC_d16 (d16 : Word) : Statement (.ld_BC_d16 d16) := of_bytes (b0 := 0x01#8) (rest := imm16Bytes d16) rfl rfl
theorem ld_atBC_A : Statement .ld_atBC_A := of_bytes (b0 := 0x02#8) (rest := []) rfl rfl
theorem inc_BC : Statement .inc_BC := of_bytes (b0 := 0x03#8) (rest := []) rfl rfl
theorem inc_B : Statement .inc_B := of_bytes (b0 := 0x04#8) (rest := []) rfl rfl
theorem dec_B : Statement .dec_B := of_bytes (b0 := 0x05#8) (rest := []) rfl rfl
theorem ld_B_d8 (d8 : Byte) : Statement (.ld_B_d8 d8) := of_bytes (b0 := 0x06#8) (rest := [d8]) rfl rfl
theorem rlca : Statement .rlca := of_bytes (b0 := 0x07#8) (rest := []) rfl rfl
theorem ld_ata16_SP (a16 : Word) : Statement (.ld_ata16_SP a16) := of_bytes (b0 := 0x08#8) (rest := imm16Bytes a16) rfl rfl
theorem add_HL_BC : Statement .add_HL_BC := of_bytes (b0 := 0x09#8) (rest := []) rfl rfl
theorem ld_A_atBC : Statement .ld_A_atBC := of_bytes (b0 := 0x0A#8) (rest := []) rfl rfl
theorem dec_BC : Statement .dec_BC := of_bytes (b0 := 0x0B#8) (rest := []) rfl rfl
theorem inc_C : Statement .inc_C := of_bytes (b0 := 0x0C#8) (rest := []) rfl rfl
theorem dec_C : Statement .dec_C := of_bytes (b0 := 0x0D#8) (rest := []) rfl rfl
theorem ld_C_d8 (d8 : Byte) : Statement (.ld_C_d8 d8) := of_bytes (b0 := 0x0E#8) (rest := [d8]) rfl rfl
theorem rrca : Statement .rrca := of_bytes (b0 := 0x0F#8) (rest := []) rfl rfl
theorem stop (ignored : Byte) : Statement (.stop ignored) := of_bytes (b0 := 0x10#8) (rest := [ignored]) rfl rfl
theorem ld_DE_d16 (d16 : Word) : Statement (.ld_DE_d16 d16) := of_bytes (b0 := 0x11#8) (rest := imm16Bytes d16) rfl rfl
theorem ld_atDE_A : Statement .ld_atDE_A := of_bytes (b0 := 0x12#8) (rest := []) rfl rfl
theorem inc_DE : Statement .inc_DE := of_bytes (b0 := 0x13#8) (rest := []) rfl rfl
theorem inc_D : Statement .inc_D := of_bytes (b0 := 0x14#8) (rest := []) rfl rfl
theorem dec_D : Statement .dec_D := of_bytes (b0 := 0x15#8) (rest := []) rfl rfl
theorem ld_D_d8 (d8 : Byte) : Statement (.ld_D_d8 d8) := of_bytes (b0 := 0x16#8) (rest := [d8]) rfl rfl
theorem rla : Statement .rla := of_bytes (b0 := 0x17#8) (rest := []) rfl rfl
theorem jr_e8 (e8 : Byte) : Statement (.jr_e8 e8) := of_bytes (b0 := 0x18#8) (rest := [e8]) rfl rfl
theorem add_HL_DE : Statement .add_HL_DE := of_bytes (b0 := 0x19#8) (rest := []) rfl rfl
theorem ld_A_atDE : Statement .ld_A_atDE := of_bytes (b0 := 0x1A#8) (rest := []) rfl rfl
theorem dec_DE : Statement .dec_DE := of_bytes (b0 := 0x1B#8) (rest := []) rfl rfl
theorem inc_E : Statement .inc_E := of_bytes (b0 := 0x1C#8) (rest := []) rfl rfl
theorem dec_E : Statement .dec_E := of_bytes (b0 := 0x1D#8) (rest := []) rfl rfl
theorem ld_E_d8 (d8 : Byte) : Statement (.ld_E_d8 d8) := of_bytes (b0 := 0x1E#8) (rest := [d8]) rfl rfl
theorem rra : Statement .rra := of_bytes (b0 := 0x1F#8) (rest := []) rfl rfl
theorem jr_NZ_e8 (e8 : Byte) : Statement (.jr_NZ_e8 e8) := of_bytes (b0 := 0x20#8) (rest := [e8]) rfl rfl
theorem ld_HL_d16 (d16 : Word) : Statement (.ld_HL_d16 d16) := of_bytes (b0 := 0x21#8) (rest := imm16Bytes d16) rfl rfl
theorem ld_atHLinc_A : Statement .ld_atHLinc_A := of_bytes (b0 := 0x22#8) (rest := []) rfl rfl
theorem inc_HL : Statement .inc_HL := of_bytes (b0 := 0x23#8) (rest := []) rfl rfl
theorem inc_H : Statement .inc_H := of_bytes (b0 := 0x24#8) (rest := []) rfl rfl
theorem dec_H : Statement .dec_H := of_bytes (b0 := 0x25#8) (rest := []) rfl rfl
theorem ld_H_d8 (d8 : Byte) : Statement (.ld_H_d8 d8) := of_bytes (b0 := 0x26#8) (rest := [d8]) rfl rfl
theorem daa : Statement .daa := of_bytes (b0 := 0x27#8) (rest := []) rfl rfl
theorem jr_Z_e8 (e8 : Byte) : Statement (.jr_Z_e8 e8) := of_bytes (b0 := 0x28#8) (rest := [e8]) rfl rfl
theorem add_HL_HL : Statement .add_HL_HL := of_bytes (b0 := 0x29#8) (rest := []) rfl rfl
theorem ld_A_atHLinc : Statement .ld_A_atHLinc := of_bytes (b0 := 0x2A#8) (rest := []) rfl rfl
theorem dec_HL : Statement .dec_HL := of_bytes (b0 := 0x2B#8) (rest := []) rfl rfl
theorem inc_L : Statement .inc_L := of_bytes (b0 := 0x2C#8) (rest := []) rfl rfl
theorem dec_L : Statement .dec_L := of_bytes (b0 := 0x2D#8) (rest := []) rfl rfl
theorem ld_L_d8 (d8 : Byte) : Statement (.ld_L_d8 d8) := of_bytes (b0 := 0x2E#8) (rest := [d8]) rfl rfl
theorem cpl : Statement .cpl := of_bytes (b0 := 0x2F#8) (rest := []) rfl rfl
theorem jr_NC_e8 (e8 : Byte) : Statement (.jr_NC_e8 e8) := of_bytes (b0 := 0x30#8) (rest := [e8]) rfl rfl
theorem ld_SP_d16 (d16 : Word) : Statement (.ld_SP_d16 d16) := of_bytes (b0 := 0x31#8) (rest := imm16Bytes d16) rfl rfl
theorem ld_atHLdec_A : Statement .ld_atHLdec_A := of_bytes (b0 := 0x32#8) (rest := []) rfl rfl
theorem inc_SP : Statement .inc_SP := of_bytes (b0 := 0x33#8) (rest := []) rfl rfl
theorem inc_atHL : Statement .inc_atHL := of_bytes (b0 := 0x34#8) (rest := []) rfl rfl
theorem dec_atHL : Statement .dec_atHL := of_bytes (b0 := 0x35#8) (rest := []) rfl rfl
theorem ld_atHL_d8 (d8 : Byte) : Statement (.ld_atHL_d8 d8) := of_bytes (b0 := 0x36#8) (rest := [d8]) rfl rfl
theorem scf : Statement .scf := of_bytes (b0 := 0x37#8) (rest := []) rfl rfl
theorem jr_C_e8 (e8 : Byte) : Statement (.jr_C_e8 e8) := of_bytes (b0 := 0x38#8) (rest := [e8]) rfl rfl
theorem add_HL_SP : Statement .add_HL_SP := of_bytes (b0 := 0x39#8) (rest := []) rfl rfl
theorem ld_A_atHLdec : Statement .ld_A_atHLdec := of_bytes (b0 := 0x3A#8) (rest := []) rfl rfl
theorem dec_SP : Statement .dec_SP := of_bytes (b0 := 0x3B#8) (rest := []) rfl rfl
theorem inc_A : Statement .inc_A := of_bytes (b0 := 0x3C#8) (rest := []) rfl rfl
theorem dec_A : Statement .dec_A := of_bytes (b0 := 0x3D#8) (rest := []) rfl rfl
theorem ld_A_d8 (d8 : Byte) : Statement (.ld_A_d8 d8) := of_bytes (b0 := 0x3E#8) (rest := [d8]) rfl rfl
theorem ccf : Statement .ccf := of_bytes (b0 := 0x3F#8) (rest := []) rfl rfl
theorem ld_B_B : Statement .ld_B_B := of_bytes (b0 := 0x40#8) (rest := []) rfl rfl
theorem ld_B_C : Statement .ld_B_C := of_bytes (b0 := 0x41#8) (rest := []) rfl rfl
theorem ld_B_D : Statement .ld_B_D := of_bytes (b0 := 0x42#8) (rest := []) rfl rfl
theorem ld_B_E : Statement .ld_B_E := of_bytes (b0 := 0x43#8) (rest := []) rfl rfl
theorem ld_B_H : Statement .ld_B_H := of_bytes (b0 := 0x44#8) (rest := []) rfl rfl
theorem ld_B_L : Statement .ld_B_L := of_bytes (b0 := 0x45#8) (rest := []) rfl rfl
theorem ld_B_atHL : Statement .ld_B_atHL := of_bytes (b0 := 0x46#8) (rest := []) rfl rfl
theorem ld_B_A : Statement .ld_B_A := of_bytes (b0 := 0x47#8) (rest := []) rfl rfl
theorem ld_C_B : Statement .ld_C_B := of_bytes (b0 := 0x48#8) (rest := []) rfl rfl
theorem ld_C_C : Statement .ld_C_C := of_bytes (b0 := 0x49#8) (rest := []) rfl rfl
theorem ld_C_D : Statement .ld_C_D := of_bytes (b0 := 0x4A#8) (rest := []) rfl rfl
theorem ld_C_E : Statement .ld_C_E := of_bytes (b0 := 0x4B#8) (rest := []) rfl rfl
theorem ld_C_H : Statement .ld_C_H := of_bytes (b0 := 0x4C#8) (rest := []) rfl rfl
theorem ld_C_L : Statement .ld_C_L := of_bytes (b0 := 0x4D#8) (rest := []) rfl rfl
theorem ld_C_atHL : Statement .ld_C_atHL := of_bytes (b0 := 0x4E#8) (rest := []) rfl rfl
theorem ld_C_A : Statement .ld_C_A := of_bytes (b0 := 0x4F#8) (rest := []) rfl rfl
theorem ld_D_B : Statement .ld_D_B := of_bytes (b0 := 0x50#8) (rest := []) rfl rfl
theorem ld_D_C : Statement .ld_D_C := of_bytes (b0 := 0x51#8) (rest := []) rfl rfl
theorem ld_D_D : Statement .ld_D_D := of_bytes (b0 := 0x52#8) (rest := []) rfl rfl
theorem ld_D_E : Statement .ld_D_E := of_bytes (b0 := 0x53#8) (rest := []) rfl rfl
theorem ld_D_H : Statement .ld_D_H := of_bytes (b0 := 0x54#8) (rest := []) rfl rfl
theorem ld_D_L : Statement .ld_D_L := of_bytes (b0 := 0x55#8) (rest := []) rfl rfl
theorem ld_D_atHL : Statement .ld_D_atHL := of_bytes (b0 := 0x56#8) (rest := []) rfl rfl
theorem ld_D_A : Statement .ld_D_A := of_bytes (b0 := 0x57#8) (rest := []) rfl rfl
theorem ld_E_B : Statement .ld_E_B := of_bytes (b0 := 0x58#8) (rest := []) rfl rfl
theorem ld_E_C : Statement .ld_E_C := of_bytes (b0 := 0x59#8) (rest := []) rfl rfl
theorem ld_E_D : Statement .ld_E_D := of_bytes (b0 := 0x5A#8) (rest := []) rfl rfl
theorem ld_E_E : Statement .ld_E_E := of_bytes (b0 := 0x5B#8) (rest := []) rfl rfl
theorem ld_E_H : Statement .ld_E_H := of_bytes (b0 := 0x5C#8) (rest := []) rfl rfl
theorem ld_E_L : Statement .ld_E_L := of_bytes (b0 := 0x5D#8) (rest := []) rfl rfl
theorem ld_E_atHL : Statement .ld_E_atHL := of_bytes (b0 := 0x5E#8) (rest := []) rfl rfl
theorem ld_E_A : Statement .ld_E_A := of_bytes (b0 := 0x5F#8) (rest := []) rfl rfl
theorem ld_H_B : Statement .ld_H_B := of_bytes (b0 := 0x60#8) (rest := []) rfl rfl
theorem ld_H_C : Statement .ld_H_C := of_bytes (b0 := 0x61#8) (rest := []) rfl rfl
theorem ld_H_D : Statement .ld_H_D := of_bytes (b0 := 0x62#8) (rest := []) rfl rfl
theorem ld_H_E : Statement .ld_H_E := of_bytes (b0 := 0x63#8) (rest := []) rfl rfl
theorem ld_H_H : Statement .ld_H_H := of_bytes (b0 := 0x64#8) (rest := []) rfl rfl
theorem ld_H_L : Statement .ld_H_L := of_bytes (b0 := 0x65#8) (rest := []) rfl rfl
theorem ld_H_atHL : Statement .ld_H_atHL := of_bytes (b0 := 0x66#8) (rest := []) rfl rfl
theorem ld_H_A : Statement .ld_H_A := of_bytes (b0 := 0x67#8) (rest := []) rfl rfl
theorem ld_L_B : Statement .ld_L_B := of_bytes (b0 := 0x68#8) (rest := []) rfl rfl
theorem ld_L_C : Statement .ld_L_C := of_bytes (b0 := 0x69#8) (rest := []) rfl rfl
theorem ld_L_D : Statement .ld_L_D := of_bytes (b0 := 0x6A#8) (rest := []) rfl rfl
theorem ld_L_E : Statement .ld_L_E := of_bytes (b0 := 0x6B#8) (rest := []) rfl rfl
theorem ld_L_H : Statement .ld_L_H := of_bytes (b0 := 0x6C#8) (rest := []) rfl rfl
theorem ld_L_L : Statement .ld_L_L := of_bytes (b0 := 0x6D#8) (rest := []) rfl rfl
theorem ld_L_atHL : Statement .ld_L_atHL := of_bytes (b0 := 0x6E#8) (rest := []) rfl rfl
theorem ld_L_A : Statement .ld_L_A := of_bytes (b0 := 0x6F#8) (rest := []) rfl rfl
theorem ld_atHL_B : Statement .ld_atHL_B := of_bytes (b0 := 0x70#8) (rest := []) rfl rfl
theorem ld_atHL_C : Statement .ld_atHL_C := of_bytes (b0 := 0x71#8) (rest := []) rfl rfl
theorem ld_atHL_D : Statement .ld_atHL_D := of_bytes (b0 := 0x72#8) (rest := []) rfl rfl
theorem ld_atHL_E : Statement .ld_atHL_E := of_bytes (b0 := 0x73#8) (rest := []) rfl rfl
theorem ld_atHL_H : Statement .ld_atHL_H := of_bytes (b0 := 0x74#8) (rest := []) rfl rfl
theorem ld_atHL_L : Statement .ld_atHL_L := of_bytes (b0 := 0x75#8) (rest := []) rfl rfl
theorem halt : Statement .halt := of_bytes (b0 := 0x76#8) (rest := []) rfl rfl
theorem ld_atHL_A : Statement .ld_atHL_A := of_bytes (b0 := 0x77#8) (rest := []) rfl rfl
theorem ld_A_B : Statement .ld_A_B := of_bytes (b0 := 0x78#8) (rest := []) rfl rfl
theorem ld_A_C : Statement .ld_A_C := of_bytes (b0 := 0x79#8) (rest := []) rfl rfl
theorem ld_A_D : Statement .ld_A_D := of_bytes (b0 := 0x7A#8) (rest := []) rfl rfl
theorem ld_A_E : Statement .ld_A_E := of_bytes (b0 := 0x7B#8) (rest := []) rfl rfl
theorem ld_A_H : Statement .ld_A_H := of_bytes (b0 := 0x7C#8) (rest := []) rfl rfl
theorem ld_A_L : Statement .ld_A_L := of_bytes (b0 := 0x7D#8) (rest := []) rfl rfl
theorem ld_A_atHL : Statement .ld_A_atHL := of_bytes (b0 := 0x7E#8) (rest := []) rfl rfl
theorem ld_A_A : Statement .ld_A_A := of_bytes (b0 := 0x7F#8) (rest := []) rfl rfl
theorem add_A_B : Statement .add_A_B := of_bytes (b0 := 0x80#8) (rest := []) rfl rfl
theorem add_A_C : Statement .add_A_C := of_bytes (b0 := 0x81#8) (rest := []) rfl rfl
theorem add_A_D : Statement .add_A_D := of_bytes (b0 := 0x82#8) (rest := []) rfl rfl
theorem add_A_E : Statement .add_A_E := of_bytes (b0 := 0x83#8) (rest := []) rfl rfl
theorem add_A_H : Statement .add_A_H := of_bytes (b0 := 0x84#8) (rest := []) rfl rfl
theorem add_A_L : Statement .add_A_L := of_bytes (b0 := 0x85#8) (rest := []) rfl rfl
theorem add_A_atHL : Statement .add_A_atHL := of_bytes (b0 := 0x86#8) (rest := []) rfl rfl
theorem add_A_A : Statement .add_A_A := of_bytes (b0 := 0x87#8) (rest := []) rfl rfl
theorem adc_A_B : Statement .adc_A_B := of_bytes (b0 := 0x88#8) (rest := []) rfl rfl
theorem adc_A_C : Statement .adc_A_C := of_bytes (b0 := 0x89#8) (rest := []) rfl rfl
theorem adc_A_D : Statement .adc_A_D := of_bytes (b0 := 0x8A#8) (rest := []) rfl rfl
theorem adc_A_E : Statement .adc_A_E := of_bytes (b0 := 0x8B#8) (rest := []) rfl rfl
theorem adc_A_H : Statement .adc_A_H := of_bytes (b0 := 0x8C#8) (rest := []) rfl rfl
theorem adc_A_L : Statement .adc_A_L := of_bytes (b0 := 0x8D#8) (rest := []) rfl rfl
theorem adc_A_atHL : Statement .adc_A_atHL := of_bytes (b0 := 0x8E#8) (rest := []) rfl rfl
theorem adc_A_A : Statement .adc_A_A := of_bytes (b0 := 0x8F#8) (rest := []) rfl rfl
theorem sub_A_B : Statement .sub_A_B := of_bytes (b0 := 0x90#8) (rest := []) rfl rfl
theorem sub_A_C : Statement .sub_A_C := of_bytes (b0 := 0x91#8) (rest := []) rfl rfl
theorem sub_A_D : Statement .sub_A_D := of_bytes (b0 := 0x92#8) (rest := []) rfl rfl
theorem sub_A_E : Statement .sub_A_E := of_bytes (b0 := 0x93#8) (rest := []) rfl rfl
theorem sub_A_H : Statement .sub_A_H := of_bytes (b0 := 0x94#8) (rest := []) rfl rfl
theorem sub_A_L : Statement .sub_A_L := of_bytes (b0 := 0x95#8) (rest := []) rfl rfl
theorem sub_A_atHL : Statement .sub_A_atHL := of_bytes (b0 := 0x96#8) (rest := []) rfl rfl
theorem sub_A_A : Statement .sub_A_A := of_bytes (b0 := 0x97#8) (rest := []) rfl rfl
theorem sbc_A_B : Statement .sbc_A_B := of_bytes (b0 := 0x98#8) (rest := []) rfl rfl
theorem sbc_A_C : Statement .sbc_A_C := of_bytes (b0 := 0x99#8) (rest := []) rfl rfl
theorem sbc_A_D : Statement .sbc_A_D := of_bytes (b0 := 0x9A#8) (rest := []) rfl rfl
theorem sbc_A_E : Statement .sbc_A_E := of_bytes (b0 := 0x9B#8) (rest := []) rfl rfl
theorem sbc_A_H : Statement .sbc_A_H := of_bytes (b0 := 0x9C#8) (rest := []) rfl rfl
theorem sbc_A_L : Statement .sbc_A_L := of_bytes (b0 := 0x9D#8) (rest := []) rfl rfl
theorem sbc_A_atHL : Statement .sbc_A_atHL := of_bytes (b0 := 0x9E#8) (rest := []) rfl rfl
theorem sbc_A_A : Statement .sbc_A_A := of_bytes (b0 := 0x9F#8) (rest := []) rfl rfl
theorem and_A_B : Statement .and_A_B := of_bytes (b0 := 0xA0#8) (rest := []) rfl rfl
theorem and_A_C : Statement .and_A_C := of_bytes (b0 := 0xA1#8) (rest := []) rfl rfl
theorem and_A_D : Statement .and_A_D := of_bytes (b0 := 0xA2#8) (rest := []) rfl rfl
theorem and_A_E : Statement .and_A_E := of_bytes (b0 := 0xA3#8) (rest := []) rfl rfl
theorem and_A_H : Statement .and_A_H := of_bytes (b0 := 0xA4#8) (rest := []) rfl rfl
theorem and_A_L : Statement .and_A_L := of_bytes (b0 := 0xA5#8) (rest := []) rfl rfl
theorem and_A_atHL : Statement .and_A_atHL := of_bytes (b0 := 0xA6#8) (rest := []) rfl rfl
theorem and_A_A : Statement .and_A_A := of_bytes (b0 := 0xA7#8) (rest := []) rfl rfl
theorem xor_A_B : Statement .xor_A_B := of_bytes (b0 := 0xA8#8) (rest := []) rfl rfl
theorem xor_A_C : Statement .xor_A_C := of_bytes (b0 := 0xA9#8) (rest := []) rfl rfl
theorem xor_A_D : Statement .xor_A_D := of_bytes (b0 := 0xAA#8) (rest := []) rfl rfl
theorem xor_A_E : Statement .xor_A_E := of_bytes (b0 := 0xAB#8) (rest := []) rfl rfl
theorem xor_A_H : Statement .xor_A_H := of_bytes (b0 := 0xAC#8) (rest := []) rfl rfl
theorem xor_A_L : Statement .xor_A_L := of_bytes (b0 := 0xAD#8) (rest := []) rfl rfl
theorem xor_A_atHL : Statement .xor_A_atHL := of_bytes (b0 := 0xAE#8) (rest := []) rfl rfl
theorem xor_A_A : Statement .xor_A_A := of_bytes (b0 := 0xAF#8) (rest := []) rfl rfl
theorem or_A_B : Statement .or_A_B := of_bytes (b0 := 0xB0#8) (rest := []) rfl rfl
theorem or_A_C : Statement .or_A_C := of_bytes (b0 := 0xB1#8) (rest := []) rfl rfl
theorem or_A_D : Statement .or_A_D := of_bytes (b0 := 0xB2#8) (rest := []) rfl rfl
theorem or_A_E : Statement .or_A_E := of_bytes (b0 := 0xB3#8) (rest := []) rfl rfl
theorem or_A_H : Statement .or_A_H := of_bytes (b0 := 0xB4#8) (rest := []) rfl rfl
theorem or_A_L : Statement .or_A_L := of_bytes (b0 := 0xB5#8) (rest := []) rfl rfl
theorem or_A_atHL : Statement .or_A_atHL := of_bytes (b0 := 0xB6#8) (rest := []) rfl rfl
theorem or_A_A : Statement .or_A_A := of_bytes (b0 := 0xB7#8) (rest := []) rfl rfl
theorem cp_A_B : Statement .cp_A_B := of_bytes (b0 := 0xB8#8) (rest := []) rfl rfl
theorem cp_A_C : Statement .cp_A_C := of_bytes (b0 := 0xB9#8) (rest := []) rfl rfl
theorem cp_A_D : Statement .cp_A_D := of_bytes (b0 := 0xBA#8) (rest := []) rfl rfl
theorem cp_A_E : Statement .cp_A_E := of_bytes (b0 := 0xBB#8) (rest := []) rfl rfl
theorem cp_A_H : Statement .cp_A_H := of_bytes (b0 := 0xBC#8) (rest := []) rfl rfl
theorem cp_A_L : Statement .cp_A_L := of_bytes (b0 := 0xBD#8) (rest := []) rfl rfl
theorem cp_A_atHL : Statement .cp_A_atHL := of_bytes (b0 := 0xBE#8) (rest := []) rfl rfl
theorem cp_A_A : Statement .cp_A_A := of_bytes (b0 := 0xBF#8) (rest := []) rfl rfl
theorem ret_NZ : Statement .ret_NZ := of_bytes (b0 := 0xC0#8) (rest := []) rfl rfl
theorem pop_BC : Statement .pop_BC := of_bytes (b0 := 0xC1#8) (rest := []) rfl rfl
theorem jp_NZ_a16 (a16 : Word) : Statement (.jp_NZ_a16 a16) := of_bytes (b0 := 0xC2#8) (rest := imm16Bytes a16) rfl rfl
theorem jp_a16 (a16 : Word) : Statement (.jp_a16 a16) := of_bytes (b0 := 0xC3#8) (rest := imm16Bytes a16) rfl rfl
theorem call_NZ_a16 (a16 : Word) : Statement (.call_NZ_a16 a16) := of_bytes (b0 := 0xC4#8) (rest := imm16Bytes a16) rfl rfl
theorem push_BC : Statement .push_BC := of_bytes (b0 := 0xC5#8) (rest := []) rfl rfl
theorem add_A_d8 (d8 : Byte) : Statement (.add_A_d8 d8) := of_bytes (b0 := 0xC6#8) (rest := [d8]) rfl rfl
theorem rst_00h : Statement .rst_00h := of_bytes (b0 := 0xC7#8) (rest := []) rfl rfl
theorem ret_Z : Statement .ret_Z := of_bytes (b0 := 0xC8#8) (rest := []) rfl rfl
theorem ret : Statement .ret := of_bytes (b0 := 0xC9#8) (rest := []) rfl rfl
theorem jp_Z_a16 (a16 : Word) : Statement (.jp_Z_a16 a16) := of_bytes (b0 := 0xCA#8) (rest := imm16Bytes a16) rfl rfl
theorem prefix_CB (ext : Byte) : Statement (.prefix_CB ext) := of_bytes (b0 := 0xCB#8) (rest := [ext]) rfl rfl
theorem call_Z_a16 (a16 : Word) : Statement (.call_Z_a16 a16) := of_bytes (b0 := 0xCC#8) (rest := imm16Bytes a16) rfl rfl
theorem call_a16 (a16 : Word) : Statement (.call_a16 a16) := of_bytes (b0 := 0xCD#8) (rest := imm16Bytes a16) rfl rfl
theorem adc_A_d8 (d8 : Byte) : Statement (.adc_A_d8 d8) := of_bytes (b0 := 0xCE#8) (rest := [d8]) rfl rfl
theorem rst_08h : Statement .rst_08h := of_bytes (b0 := 0xCF#8) (rest := []) rfl rfl
theorem ret_NC : Statement .ret_NC := of_bytes (b0 := 0xD0#8) (rest := []) rfl rfl
theorem pop_DE : Statement .pop_DE := of_bytes (b0 := 0xD1#8) (rest := []) rfl rfl
theorem jp_NC_a16 (a16 : Word) : Statement (.jp_NC_a16 a16) := of_bytes (b0 := 0xD2#8) (rest := imm16Bytes a16) rfl rfl
theorem undefined_D3 : Statement .undefined_D3 := of_bytes (b0 := 0xD3#8) (rest := []) rfl rfl
theorem call_NC_a16 (a16 : Word) : Statement (.call_NC_a16 a16) := of_bytes (b0 := 0xD4#8) (rest := imm16Bytes a16) rfl rfl
theorem push_DE : Statement .push_DE := of_bytes (b0 := 0xD5#8) (rest := []) rfl rfl
theorem sub_A_d8 (d8 : Byte) : Statement (.sub_A_d8 d8) := of_bytes (b0 := 0xD6#8) (rest := [d8]) rfl rfl
theorem rst_10h : Statement .rst_10h := of_bytes (b0 := 0xD7#8) (rest := []) rfl rfl
theorem ret_C : Statement .ret_C := of_bytes (b0 := 0xD8#8) (rest := []) rfl rfl
theorem reti : Statement .reti := of_bytes (b0 := 0xD9#8) (rest := []) rfl rfl
theorem jp_C_a16 (a16 : Word) : Statement (.jp_C_a16 a16) := of_bytes (b0 := 0xDA#8) (rest := imm16Bytes a16) rfl rfl
theorem undefined_DB : Statement .undefined_DB := of_bytes (b0 := 0xDB#8) (rest := []) rfl rfl
theorem call_C_a16 (a16 : Word) : Statement (.call_C_a16 a16) := of_bytes (b0 := 0xDC#8) (rest := imm16Bytes a16) rfl rfl
theorem undefined_DD : Statement .undefined_DD := of_bytes (b0 := 0xDD#8) (rest := []) rfl rfl
theorem sbc_A_d8 (d8 : Byte) : Statement (.sbc_A_d8 d8) := of_bytes (b0 := 0xDE#8) (rest := [d8]) rfl rfl
theorem rst_18h : Statement .rst_18h := of_bytes (b0 := 0xDF#8) (rest := []) rfl rfl
theorem ldh_ata8_A (a8 : Byte) : Statement (.ldh_ata8_A a8) := of_bytes (b0 := 0xE0#8) (rest := [a8]) rfl rfl
theorem pop_HL : Statement .pop_HL := of_bytes (b0 := 0xE1#8) (rest := []) rfl rfl
theorem ld_atC_A : Statement .ld_atC_A := of_bytes (b0 := 0xE2#8) (rest := []) rfl rfl
theorem undefined_E3 : Statement .undefined_E3 := of_bytes (b0 := 0xE3#8) (rest := []) rfl rfl
theorem undefined_E4 : Statement .undefined_E4 := of_bytes (b0 := 0xE4#8) (rest := []) rfl rfl
theorem push_HL : Statement .push_HL := of_bytes (b0 := 0xE5#8) (rest := []) rfl rfl
theorem and_A_d8 (d8 : Byte) : Statement (.and_A_d8 d8) := of_bytes (b0 := 0xE6#8) (rest := [d8]) rfl rfl
theorem rst_20h : Statement .rst_20h := of_bytes (b0 := 0xE7#8) (rest := []) rfl rfl
theorem add_SP_e8 (e8 : Byte) : Statement (.add_SP_e8 e8) := of_bytes (b0 := 0xE8#8) (rest := [e8]) rfl rfl
theorem jp_HL : Statement .jp_HL := of_bytes (b0 := 0xE9#8) (rest := []) rfl rfl
theorem ld_ata16_A (a16 : Word) : Statement (.ld_ata16_A a16) := of_bytes (b0 := 0xEA#8) (rest := imm16Bytes a16) rfl rfl
theorem undefined_EB : Statement .undefined_EB := of_bytes (b0 := 0xEB#8) (rest := []) rfl rfl
theorem undefined_EC : Statement .undefined_EC := of_bytes (b0 := 0xEC#8) (rest := []) rfl rfl
theorem undefined_ED : Statement .undefined_ED := of_bytes (b0 := 0xED#8) (rest := []) rfl rfl
theorem xor_A_d8 (d8 : Byte) : Statement (.xor_A_d8 d8) := of_bytes (b0 := 0xEE#8) (rest := [d8]) rfl rfl
theorem rst_28h : Statement .rst_28h := of_bytes (b0 := 0xEF#8) (rest := []) rfl rfl
theorem ldh_A_ata8 (a8 : Byte) : Statement (.ldh_A_ata8 a8) := of_bytes (b0 := 0xF0#8) (rest := [a8]) rfl rfl
theorem pop_AF : Statement .pop_AF := of_bytes (b0 := 0xF1#8) (rest := []) rfl rfl
theorem ld_A_atC : Statement .ld_A_atC := of_bytes (b0 := 0xF2#8) (rest := []) rfl rfl
theorem di : Statement .di := of_bytes (b0 := 0xF3#8) (rest := []) rfl rfl
theorem undefined_F4 : Statement .undefined_F4 := of_bytes (b0 := 0xF4#8) (rest := []) rfl rfl
theorem push_AF : Statement .push_AF := of_bytes (b0 := 0xF5#8) (rest := []) rfl rfl
theorem or_A_d8 (d8 : Byte) : Statement (.or_A_d8 d8) := of_bytes (b0 := 0xF6#8) (rest := [d8]) rfl rfl
theorem rst_30h : Statement .rst_30h := of_bytes (b0 := 0xF7#8) (rest := []) rfl rfl
theorem ld_HL_SP_e8 (e8 : Byte) : Statement (.ld_HL_SP_e8 e8) := of_bytes (b0 := 0xF8#8) (rest := [e8]) rfl rfl
theorem ld_SP_HL : Statement .ld_SP_HL := of_bytes (b0 := 0xF9#8) (rest := []) rfl rfl
theorem ld_A_ata16 (a16 : Word) : Statement (.ld_A_ata16 a16) := of_bytes (b0 := 0xFA#8) (rest := imm16Bytes a16) rfl rfl
theorem ei : Statement .ei := of_bytes (b0 := 0xFB#8) (rest := []) rfl rfl
theorem undefined_FC : Statement .undefined_FC := of_bytes (b0 := 0xFC#8) (rest := []) rfl rfl
theorem undefined_FD : Statement .undefined_FD := of_bytes (b0 := 0xFD#8) (rest := []) rfl rfl
theorem cp_A_d8 (d8 : Byte) : Statement (.cp_A_d8 d8) := of_bytes (b0 := 0xFE#8) (rest := [d8]) rfl rfl
theorem rst_38h : Statement .rst_38h := of_bytes (b0 := 0xFF#8) (rest := []) rfl rfl
theorem rlc_B : Statement .rlc_B := of_bytes (b0 := 0xCB#8) (rest := [0x00#8]) rfl rfl
theorem rlc_C : Statement .rlc_C := of_bytes (b0 := 0xCB#8) (rest := [0x01#8]) rfl rfl
theorem rlc_D : Statement .rlc_D := of_bytes (b0 := 0xCB#8) (rest := [0x02#8]) rfl rfl
theorem rlc_E : Statement .rlc_E := of_bytes (b0 := 0xCB#8) (rest := [0x03#8]) rfl rfl
theorem rlc_H : Statement .rlc_H := of_bytes (b0 := 0xCB#8) (rest := [0x04#8]) rfl rfl
theorem rlc_L : Statement .rlc_L := of_bytes (b0 := 0xCB#8) (rest := [0x05#8]) rfl rfl
theorem rlc_atHL : Statement .rlc_atHL := of_bytes (b0 := 0xCB#8) (rest := [0x06#8]) rfl rfl
theorem rlc_A : Statement .rlc_A := of_bytes (b0 := 0xCB#8) (rest := [0x07#8]) rfl rfl
theorem rrc_B : Statement .rrc_B := of_bytes (b0 := 0xCB#8) (rest := [0x08#8]) rfl rfl
theorem rrc_C : Statement .rrc_C := of_bytes (b0 := 0xCB#8) (rest := [0x09#8]) rfl rfl
theorem rrc_D : Statement .rrc_D := of_bytes (b0 := 0xCB#8) (rest := [0x0A#8]) rfl rfl
theorem rrc_E : Statement .rrc_E := of_bytes (b0 := 0xCB#8) (rest := [0x0B#8]) rfl rfl
theorem rrc_H : Statement .rrc_H := of_bytes (b0 := 0xCB#8) (rest := [0x0C#8]) rfl rfl
theorem rrc_L : Statement .rrc_L := of_bytes (b0 := 0xCB#8) (rest := [0x0D#8]) rfl rfl
theorem rrc_atHL : Statement .rrc_atHL := of_bytes (b0 := 0xCB#8) (rest := [0x0E#8]) rfl rfl
theorem rrc_A : Statement .rrc_A := of_bytes (b0 := 0xCB#8) (rest := [0x0F#8]) rfl rfl
theorem rl_B : Statement .rl_B := of_bytes (b0 := 0xCB#8) (rest := [0x10#8]) rfl rfl
theorem rl_C : Statement .rl_C := of_bytes (b0 := 0xCB#8) (rest := [0x11#8]) rfl rfl
theorem rl_D : Statement .rl_D := of_bytes (b0 := 0xCB#8) (rest := [0x12#8]) rfl rfl
theorem rl_E : Statement .rl_E := of_bytes (b0 := 0xCB#8) (rest := [0x13#8]) rfl rfl
theorem rl_H : Statement .rl_H := of_bytes (b0 := 0xCB#8) (rest := [0x14#8]) rfl rfl
theorem rl_L : Statement .rl_L := of_bytes (b0 := 0xCB#8) (rest := [0x15#8]) rfl rfl
theorem rl_atHL : Statement .rl_atHL := of_bytes (b0 := 0xCB#8) (rest := [0x16#8]) rfl rfl
theorem rl_A : Statement .rl_A := of_bytes (b0 := 0xCB#8) (rest := [0x17#8]) rfl rfl
theorem rr_B : Statement .rr_B := of_bytes (b0 := 0xCB#8) (rest := [0x18#8]) rfl rfl
theorem rr_C : Statement .rr_C := of_bytes (b0 := 0xCB#8) (rest := [0x19#8]) rfl rfl
theorem rr_D : Statement .rr_D := of_bytes (b0 := 0xCB#8) (rest := [0x1A#8]) rfl rfl
theorem rr_E : Statement .rr_E := of_bytes (b0 := 0xCB#8) (rest := [0x1B#8]) rfl rfl
theorem rr_H : Statement .rr_H := of_bytes (b0 := 0xCB#8) (rest := [0x1C#8]) rfl rfl
theorem rr_L : Statement .rr_L := of_bytes (b0 := 0xCB#8) (rest := [0x1D#8]) rfl rfl
theorem rr_atHL : Statement .rr_atHL := of_bytes (b0 := 0xCB#8) (rest := [0x1E#8]) rfl rfl
theorem rr_A : Statement .rr_A := of_bytes (b0 := 0xCB#8) (rest := [0x1F#8]) rfl rfl
theorem sla_B : Statement .sla_B := of_bytes (b0 := 0xCB#8) (rest := [0x20#8]) rfl rfl
theorem sla_C : Statement .sla_C := of_bytes (b0 := 0xCB#8) (rest := [0x21#8]) rfl rfl
theorem sla_D : Statement .sla_D := of_bytes (b0 := 0xCB#8) (rest := [0x22#8]) rfl rfl
theorem sla_E : Statement .sla_E := of_bytes (b0 := 0xCB#8) (rest := [0x23#8]) rfl rfl
theorem sla_H : Statement .sla_H := of_bytes (b0 := 0xCB#8) (rest := [0x24#8]) rfl rfl
theorem sla_L : Statement .sla_L := of_bytes (b0 := 0xCB#8) (rest := [0x25#8]) rfl rfl
theorem sla_atHL : Statement .sla_atHL := of_bytes (b0 := 0xCB#8) (rest := [0x26#8]) rfl rfl
theorem sla_A : Statement .sla_A := of_bytes (b0 := 0xCB#8) (rest := [0x27#8]) rfl rfl
theorem sra_B : Statement .sra_B := of_bytes (b0 := 0xCB#8) (rest := [0x28#8]) rfl rfl
theorem sra_C : Statement .sra_C := of_bytes (b0 := 0xCB#8) (rest := [0x29#8]) rfl rfl
theorem sra_D : Statement .sra_D := of_bytes (b0 := 0xCB#8) (rest := [0x2A#8]) rfl rfl
theorem sra_E : Statement .sra_E := of_bytes (b0 := 0xCB#8) (rest := [0x2B#8]) rfl rfl
theorem sra_H : Statement .sra_H := of_bytes (b0 := 0xCB#8) (rest := [0x2C#8]) rfl rfl
theorem sra_L : Statement .sra_L := of_bytes (b0 := 0xCB#8) (rest := [0x2D#8]) rfl rfl
theorem sra_atHL : Statement .sra_atHL := of_bytes (b0 := 0xCB#8) (rest := [0x2E#8]) rfl rfl
theorem sra_A : Statement .sra_A := of_bytes (b0 := 0xCB#8) (rest := [0x2F#8]) rfl rfl
theorem swap_B : Statement .swap_B := of_bytes (b0 := 0xCB#8) (rest := [0x30#8]) rfl rfl
theorem swap_C : Statement .swap_C := of_bytes (b0 := 0xCB#8) (rest := [0x31#8]) rfl rfl
theorem swap_D : Statement .swap_D := of_bytes (b0 := 0xCB#8) (rest := [0x32#8]) rfl rfl
theorem swap_E : Statement .swap_E := of_bytes (b0 := 0xCB#8) (rest := [0x33#8]) rfl rfl
theorem swap_H : Statement .swap_H := of_bytes (b0 := 0xCB#8) (rest := [0x34#8]) rfl rfl
theorem swap_L : Statement .swap_L := of_bytes (b0 := 0xCB#8) (rest := [0x35#8]) rfl rfl
theorem swap_atHL : Statement .swap_atHL := of_bytes (b0 := 0xCB#8) (rest := [0x36#8]) rfl rfl
theorem swap_A : Statement .swap_A := of_bytes (b0 := 0xCB#8) (rest := [0x37#8]) rfl rfl
theorem srl_B : Statement .srl_B := of_bytes (b0 := 0xCB#8) (rest := [0x38#8]) rfl rfl
theorem srl_C : Statement .srl_C := of_bytes (b0 := 0xCB#8) (rest := [0x39#8]) rfl rfl
theorem srl_D : Statement .srl_D := of_bytes (b0 := 0xCB#8) (rest := [0x3A#8]) rfl rfl
theorem srl_E : Statement .srl_E := of_bytes (b0 := 0xCB#8) (rest := [0x3B#8]) rfl rfl
theorem srl_H : Statement .srl_H := of_bytes (b0 := 0xCB#8) (rest := [0x3C#8]) rfl rfl
theorem srl_L : Statement .srl_L := of_bytes (b0 := 0xCB#8) (rest := [0x3D#8]) rfl rfl
theorem srl_atHL : Statement .srl_atHL := of_bytes (b0 := 0xCB#8) (rest := [0x3E#8]) rfl rfl
theorem srl_A : Statement .srl_A := of_bytes (b0 := 0xCB#8) (rest := [0x3F#8]) rfl rfl
theorem bit_0_B : Statement .bit_0_B := of_bytes (b0 := 0xCB#8) (rest := [0x40#8]) rfl rfl
theorem bit_0_C : Statement .bit_0_C := of_bytes (b0 := 0xCB#8) (rest := [0x41#8]) rfl rfl
theorem bit_0_D : Statement .bit_0_D := of_bytes (b0 := 0xCB#8) (rest := [0x42#8]) rfl rfl
theorem bit_0_E : Statement .bit_0_E := of_bytes (b0 := 0xCB#8) (rest := [0x43#8]) rfl rfl
theorem bit_0_H : Statement .bit_0_H := of_bytes (b0 := 0xCB#8) (rest := [0x44#8]) rfl rfl
theorem bit_0_L : Statement .bit_0_L := of_bytes (b0 := 0xCB#8) (rest := [0x45#8]) rfl rfl
theorem bit_0_atHL : Statement .bit_0_atHL := of_bytes (b0 := 0xCB#8) (rest := [0x46#8]) rfl rfl
theorem bit_0_A : Statement .bit_0_A := of_bytes (b0 := 0xCB#8) (rest := [0x47#8]) rfl rfl
theorem bit_1_B : Statement .bit_1_B := of_bytes (b0 := 0xCB#8) (rest := [0x48#8]) rfl rfl
theorem bit_1_C : Statement .bit_1_C := of_bytes (b0 := 0xCB#8) (rest := [0x49#8]) rfl rfl
theorem bit_1_D : Statement .bit_1_D := of_bytes (b0 := 0xCB#8) (rest := [0x4A#8]) rfl rfl
theorem bit_1_E : Statement .bit_1_E := of_bytes (b0 := 0xCB#8) (rest := [0x4B#8]) rfl rfl
theorem bit_1_H : Statement .bit_1_H := of_bytes (b0 := 0xCB#8) (rest := [0x4C#8]) rfl rfl
theorem bit_1_L : Statement .bit_1_L := of_bytes (b0 := 0xCB#8) (rest := [0x4D#8]) rfl rfl
theorem bit_1_atHL : Statement .bit_1_atHL := of_bytes (b0 := 0xCB#8) (rest := [0x4E#8]) rfl rfl
theorem bit_1_A : Statement .bit_1_A := of_bytes (b0 := 0xCB#8) (rest := [0x4F#8]) rfl rfl
theorem bit_2_B : Statement .bit_2_B := of_bytes (b0 := 0xCB#8) (rest := [0x50#8]) rfl rfl
theorem bit_2_C : Statement .bit_2_C := of_bytes (b0 := 0xCB#8) (rest := [0x51#8]) rfl rfl
theorem bit_2_D : Statement .bit_2_D := of_bytes (b0 := 0xCB#8) (rest := [0x52#8]) rfl rfl
theorem bit_2_E : Statement .bit_2_E := of_bytes (b0 := 0xCB#8) (rest := [0x53#8]) rfl rfl
theorem bit_2_H : Statement .bit_2_H := of_bytes (b0 := 0xCB#8) (rest := [0x54#8]) rfl rfl
theorem bit_2_L : Statement .bit_2_L := of_bytes (b0 := 0xCB#8) (rest := [0x55#8]) rfl rfl
theorem bit_2_atHL : Statement .bit_2_atHL := of_bytes (b0 := 0xCB#8) (rest := [0x56#8]) rfl rfl
theorem bit_2_A : Statement .bit_2_A := of_bytes (b0 := 0xCB#8) (rest := [0x57#8]) rfl rfl
theorem bit_3_B : Statement .bit_3_B := of_bytes (b0 := 0xCB#8) (rest := [0x58#8]) rfl rfl
theorem bit_3_C : Statement .bit_3_C := of_bytes (b0 := 0xCB#8) (rest := [0x59#8]) rfl rfl
theorem bit_3_D : Statement .bit_3_D := of_bytes (b0 := 0xCB#8) (rest := [0x5A#8]) rfl rfl
theorem bit_3_E : Statement .bit_3_E := of_bytes (b0 := 0xCB#8) (rest := [0x5B#8]) rfl rfl
theorem bit_3_H : Statement .bit_3_H := of_bytes (b0 := 0xCB#8) (rest := [0x5C#8]) rfl rfl
theorem bit_3_L : Statement .bit_3_L := of_bytes (b0 := 0xCB#8) (rest := [0x5D#8]) rfl rfl
theorem bit_3_atHL : Statement .bit_3_atHL := of_bytes (b0 := 0xCB#8) (rest := [0x5E#8]) rfl rfl
theorem bit_3_A : Statement .bit_3_A := of_bytes (b0 := 0xCB#8) (rest := [0x5F#8]) rfl rfl
theorem bit_4_B : Statement .bit_4_B := of_bytes (b0 := 0xCB#8) (rest := [0x60#8]) rfl rfl
theorem bit_4_C : Statement .bit_4_C := of_bytes (b0 := 0xCB#8) (rest := [0x61#8]) rfl rfl
theorem bit_4_D : Statement .bit_4_D := of_bytes (b0 := 0xCB#8) (rest := [0x62#8]) rfl rfl
theorem bit_4_E : Statement .bit_4_E := of_bytes (b0 := 0xCB#8) (rest := [0x63#8]) rfl rfl
theorem bit_4_H : Statement .bit_4_H := of_bytes (b0 := 0xCB#8) (rest := [0x64#8]) rfl rfl
theorem bit_4_L : Statement .bit_4_L := of_bytes (b0 := 0xCB#8) (rest := [0x65#8]) rfl rfl
theorem bit_4_atHL : Statement .bit_4_atHL := of_bytes (b0 := 0xCB#8) (rest := [0x66#8]) rfl rfl
theorem bit_4_A : Statement .bit_4_A := of_bytes (b0 := 0xCB#8) (rest := [0x67#8]) rfl rfl
theorem bit_5_B : Statement .bit_5_B := of_bytes (b0 := 0xCB#8) (rest := [0x68#8]) rfl rfl
theorem bit_5_C : Statement .bit_5_C := of_bytes (b0 := 0xCB#8) (rest := [0x69#8]) rfl rfl
theorem bit_5_D : Statement .bit_5_D := of_bytes (b0 := 0xCB#8) (rest := [0x6A#8]) rfl rfl
theorem bit_5_E : Statement .bit_5_E := of_bytes (b0 := 0xCB#8) (rest := [0x6B#8]) rfl rfl
theorem bit_5_H : Statement .bit_5_H := of_bytes (b0 := 0xCB#8) (rest := [0x6C#8]) rfl rfl
theorem bit_5_L : Statement .bit_5_L := of_bytes (b0 := 0xCB#8) (rest := [0x6D#8]) rfl rfl
theorem bit_5_atHL : Statement .bit_5_atHL := of_bytes (b0 := 0xCB#8) (rest := [0x6E#8]) rfl rfl
theorem bit_5_A : Statement .bit_5_A := of_bytes (b0 := 0xCB#8) (rest := [0x6F#8]) rfl rfl
theorem bit_6_B : Statement .bit_6_B := of_bytes (b0 := 0xCB#8) (rest := [0x70#8]) rfl rfl
theorem bit_6_C : Statement .bit_6_C := of_bytes (b0 := 0xCB#8) (rest := [0x71#8]) rfl rfl
theorem bit_6_D : Statement .bit_6_D := of_bytes (b0 := 0xCB#8) (rest := [0x72#8]) rfl rfl
theorem bit_6_E : Statement .bit_6_E := of_bytes (b0 := 0xCB#8) (rest := [0x73#8]) rfl rfl
theorem bit_6_H : Statement .bit_6_H := of_bytes (b0 := 0xCB#8) (rest := [0x74#8]) rfl rfl
theorem bit_6_L : Statement .bit_6_L := of_bytes (b0 := 0xCB#8) (rest := [0x75#8]) rfl rfl
theorem bit_6_atHL : Statement .bit_6_atHL := of_bytes (b0 := 0xCB#8) (rest := [0x76#8]) rfl rfl
theorem bit_6_A : Statement .bit_6_A := of_bytes (b0 := 0xCB#8) (rest := [0x77#8]) rfl rfl
theorem bit_7_B : Statement .bit_7_B := of_bytes (b0 := 0xCB#8) (rest := [0x78#8]) rfl rfl
theorem bit_7_C : Statement .bit_7_C := of_bytes (b0 := 0xCB#8) (rest := [0x79#8]) rfl rfl
theorem bit_7_D : Statement .bit_7_D := of_bytes (b0 := 0xCB#8) (rest := [0x7A#8]) rfl rfl
theorem bit_7_E : Statement .bit_7_E := of_bytes (b0 := 0xCB#8) (rest := [0x7B#8]) rfl rfl
theorem bit_7_H : Statement .bit_7_H := of_bytes (b0 := 0xCB#8) (rest := [0x7C#8]) rfl rfl
theorem bit_7_L : Statement .bit_7_L := of_bytes (b0 := 0xCB#8) (rest := [0x7D#8]) rfl rfl
theorem bit_7_atHL : Statement .bit_7_atHL := of_bytes (b0 := 0xCB#8) (rest := [0x7E#8]) rfl rfl
theorem bit_7_A : Statement .bit_7_A := of_bytes (b0 := 0xCB#8) (rest := [0x7F#8]) rfl rfl
theorem res_0_B : Statement .res_0_B := of_bytes (b0 := 0xCB#8) (rest := [0x80#8]) rfl rfl
theorem res_0_C : Statement .res_0_C := of_bytes (b0 := 0xCB#8) (rest := [0x81#8]) rfl rfl
theorem res_0_D : Statement .res_0_D := of_bytes (b0 := 0xCB#8) (rest := [0x82#8]) rfl rfl
theorem res_0_E : Statement .res_0_E := of_bytes (b0 := 0xCB#8) (rest := [0x83#8]) rfl rfl
theorem res_0_H : Statement .res_0_H := of_bytes (b0 := 0xCB#8) (rest := [0x84#8]) rfl rfl
theorem res_0_L : Statement .res_0_L := of_bytes (b0 := 0xCB#8) (rest := [0x85#8]) rfl rfl
theorem res_0_atHL : Statement .res_0_atHL := of_bytes (b0 := 0xCB#8) (rest := [0x86#8]) rfl rfl
theorem res_0_A : Statement .res_0_A := of_bytes (b0 := 0xCB#8) (rest := [0x87#8]) rfl rfl
theorem res_1_B : Statement .res_1_B := of_bytes (b0 := 0xCB#8) (rest := [0x88#8]) rfl rfl
theorem res_1_C : Statement .res_1_C := of_bytes (b0 := 0xCB#8) (rest := [0x89#8]) rfl rfl
theorem res_1_D : Statement .res_1_D := of_bytes (b0 := 0xCB#8) (rest := [0x8A#8]) rfl rfl
theorem res_1_E : Statement .res_1_E := of_bytes (b0 := 0xCB#8) (rest := [0x8B#8]) rfl rfl
theorem res_1_H : Statement .res_1_H := of_bytes (b0 := 0xCB#8) (rest := [0x8C#8]) rfl rfl
theorem res_1_L : Statement .res_1_L := of_bytes (b0 := 0xCB#8) (rest := [0x8D#8]) rfl rfl
theorem res_1_atHL : Statement .res_1_atHL := of_bytes (b0 := 0xCB#8) (rest := [0x8E#8]) rfl rfl
theorem res_1_A : Statement .res_1_A := of_bytes (b0 := 0xCB#8) (rest := [0x8F#8]) rfl rfl
theorem res_2_B : Statement .res_2_B := of_bytes (b0 := 0xCB#8) (rest := [0x90#8]) rfl rfl
theorem res_2_C : Statement .res_2_C := of_bytes (b0 := 0xCB#8) (rest := [0x91#8]) rfl rfl
theorem res_2_D : Statement .res_2_D := of_bytes (b0 := 0xCB#8) (rest := [0x92#8]) rfl rfl
theorem res_2_E : Statement .res_2_E := of_bytes (b0 := 0xCB#8) (rest := [0x93#8]) rfl rfl
theorem res_2_H : Statement .res_2_H := of_bytes (b0 := 0xCB#8) (rest := [0x94#8]) rfl rfl
theorem res_2_L : Statement .res_2_L := of_bytes (b0 := 0xCB#8) (rest := [0x95#8]) rfl rfl
theorem res_2_atHL : Statement .res_2_atHL := of_bytes (b0 := 0xCB#8) (rest := [0x96#8]) rfl rfl
theorem res_2_A : Statement .res_2_A := of_bytes (b0 := 0xCB#8) (rest := [0x97#8]) rfl rfl
theorem res_3_B : Statement .res_3_B := of_bytes (b0 := 0xCB#8) (rest := [0x98#8]) rfl rfl
theorem res_3_C : Statement .res_3_C := of_bytes (b0 := 0xCB#8) (rest := [0x99#8]) rfl rfl
theorem res_3_D : Statement .res_3_D := of_bytes (b0 := 0xCB#8) (rest := [0x9A#8]) rfl rfl
theorem res_3_E : Statement .res_3_E := of_bytes (b0 := 0xCB#8) (rest := [0x9B#8]) rfl rfl
theorem res_3_H : Statement .res_3_H := of_bytes (b0 := 0xCB#8) (rest := [0x9C#8]) rfl rfl
theorem res_3_L : Statement .res_3_L := of_bytes (b0 := 0xCB#8) (rest := [0x9D#8]) rfl rfl
theorem res_3_atHL : Statement .res_3_atHL := of_bytes (b0 := 0xCB#8) (rest := [0x9E#8]) rfl rfl
theorem res_3_A : Statement .res_3_A := of_bytes (b0 := 0xCB#8) (rest := [0x9F#8]) rfl rfl
theorem res_4_B : Statement .res_4_B := of_bytes (b0 := 0xCB#8) (rest := [0xA0#8]) rfl rfl
theorem res_4_C : Statement .res_4_C := of_bytes (b0 := 0xCB#8) (rest := [0xA1#8]) rfl rfl
theorem res_4_D : Statement .res_4_D := of_bytes (b0 := 0xCB#8) (rest := [0xA2#8]) rfl rfl
theorem res_4_E : Statement .res_4_E := of_bytes (b0 := 0xCB#8) (rest := [0xA3#8]) rfl rfl
theorem res_4_H : Statement .res_4_H := of_bytes (b0 := 0xCB#8) (rest := [0xA4#8]) rfl rfl
theorem res_4_L : Statement .res_4_L := of_bytes (b0 := 0xCB#8) (rest := [0xA5#8]) rfl rfl
theorem res_4_atHL : Statement .res_4_atHL := of_bytes (b0 := 0xCB#8) (rest := [0xA6#8]) rfl rfl
theorem res_4_A : Statement .res_4_A := of_bytes (b0 := 0xCB#8) (rest := [0xA7#8]) rfl rfl
theorem res_5_B : Statement .res_5_B := of_bytes (b0 := 0xCB#8) (rest := [0xA8#8]) rfl rfl
theorem res_5_C : Statement .res_5_C := of_bytes (b0 := 0xCB#8) (rest := [0xA9#8]) rfl rfl
theorem res_5_D : Statement .res_5_D := of_bytes (b0 := 0xCB#8) (rest := [0xAA#8]) rfl rfl
theorem res_5_E : Statement .res_5_E := of_bytes (b0 := 0xCB#8) (rest := [0xAB#8]) rfl rfl
theorem res_5_H : Statement .res_5_H := of_bytes (b0 := 0xCB#8) (rest := [0xAC#8]) rfl rfl
theorem res_5_L : Statement .res_5_L := of_bytes (b0 := 0xCB#8) (rest := [0xAD#8]) rfl rfl
theorem res_5_atHL : Statement .res_5_atHL := of_bytes (b0 := 0xCB#8) (rest := [0xAE#8]) rfl rfl
theorem res_5_A : Statement .res_5_A := of_bytes (b0 := 0xCB#8) (rest := [0xAF#8]) rfl rfl
theorem res_6_B : Statement .res_6_B := of_bytes (b0 := 0xCB#8) (rest := [0xB0#8]) rfl rfl
theorem res_6_C : Statement .res_6_C := of_bytes (b0 := 0xCB#8) (rest := [0xB1#8]) rfl rfl
theorem res_6_D : Statement .res_6_D := of_bytes (b0 := 0xCB#8) (rest := [0xB2#8]) rfl rfl
theorem res_6_E : Statement .res_6_E := of_bytes (b0 := 0xCB#8) (rest := [0xB3#8]) rfl rfl
theorem res_6_H : Statement .res_6_H := of_bytes (b0 := 0xCB#8) (rest := [0xB4#8]) rfl rfl
theorem res_6_L : Statement .res_6_L := of_bytes (b0 := 0xCB#8) (rest := [0xB5#8]) rfl rfl
theorem res_6_atHL : Statement .res_6_atHL := of_bytes (b0 := 0xCB#8) (rest := [0xB6#8]) rfl rfl
theorem res_6_A : Statement .res_6_A := of_bytes (b0 := 0xCB#8) (rest := [0xB7#8]) rfl rfl
theorem res_7_B : Statement .res_7_B := of_bytes (b0 := 0xCB#8) (rest := [0xB8#8]) rfl rfl
theorem res_7_C : Statement .res_7_C := of_bytes (b0 := 0xCB#8) (rest := [0xB9#8]) rfl rfl
theorem res_7_D : Statement .res_7_D := of_bytes (b0 := 0xCB#8) (rest := [0xBA#8]) rfl rfl
theorem res_7_E : Statement .res_7_E := of_bytes (b0 := 0xCB#8) (rest := [0xBB#8]) rfl rfl
theorem res_7_H : Statement .res_7_H := of_bytes (b0 := 0xCB#8) (rest := [0xBC#8]) rfl rfl
theorem res_7_L : Statement .res_7_L := of_bytes (b0 := 0xCB#8) (rest := [0xBD#8]) rfl rfl
theorem res_7_atHL : Statement .res_7_atHL := of_bytes (b0 := 0xCB#8) (rest := [0xBE#8]) rfl rfl
theorem res_7_A : Statement .res_7_A := of_bytes (b0 := 0xCB#8) (rest := [0xBF#8]) rfl rfl
theorem set_0_B : Statement .set_0_B := of_bytes (b0 := 0xCB#8) (rest := [0xC0#8]) rfl rfl
theorem set_0_C : Statement .set_0_C := of_bytes (b0 := 0xCB#8) (rest := [0xC1#8]) rfl rfl
theorem set_0_D : Statement .set_0_D := of_bytes (b0 := 0xCB#8) (rest := [0xC2#8]) rfl rfl
theorem set_0_E : Statement .set_0_E := of_bytes (b0 := 0xCB#8) (rest := [0xC3#8]) rfl rfl
theorem set_0_H : Statement .set_0_H := of_bytes (b0 := 0xCB#8) (rest := [0xC4#8]) rfl rfl
theorem set_0_L : Statement .set_0_L := of_bytes (b0 := 0xCB#8) (rest := [0xC5#8]) rfl rfl
theorem set_0_atHL : Statement .set_0_atHL := of_bytes (b0 := 0xCB#8) (rest := [0xC6#8]) rfl rfl
theorem set_0_A : Statement .set_0_A := of_bytes (b0 := 0xCB#8) (rest := [0xC7#8]) rfl rfl
theorem set_1_B : Statement .set_1_B := of_bytes (b0 := 0xCB#8) (rest := [0xC8#8]) rfl rfl
theorem set_1_C : Statement .set_1_C := of_bytes (b0 := 0xCB#8) (rest := [0xC9#8]) rfl rfl
theorem set_1_D : Statement .set_1_D := of_bytes (b0 := 0xCB#8) (rest := [0xCA#8]) rfl rfl
theorem set_1_E : Statement .set_1_E := of_bytes (b0 := 0xCB#8) (rest := [0xCB#8]) rfl rfl
theorem set_1_H : Statement .set_1_H := of_bytes (b0 := 0xCB#8) (rest := [0xCC#8]) rfl rfl
theorem set_1_L : Statement .set_1_L := of_bytes (b0 := 0xCB#8) (rest := [0xCD#8]) rfl rfl
theorem set_1_atHL : Statement .set_1_atHL := of_bytes (b0 := 0xCB#8) (rest := [0xCE#8]) rfl rfl
theorem set_1_A : Statement .set_1_A := of_bytes (b0 := 0xCB#8) (rest := [0xCF#8]) rfl rfl
theorem set_2_B : Statement .set_2_B := of_bytes (b0 := 0xCB#8) (rest := [0xD0#8]) rfl rfl
theorem set_2_C : Statement .set_2_C := of_bytes (b0 := 0xCB#8) (rest := [0xD1#8]) rfl rfl
theorem set_2_D : Statement .set_2_D := of_bytes (b0 := 0xCB#8) (rest := [0xD2#8]) rfl rfl
theorem set_2_E : Statement .set_2_E := of_bytes (b0 := 0xCB#8) (rest := [0xD3#8]) rfl rfl
theorem set_2_H : Statement .set_2_H := of_bytes (b0 := 0xCB#8) (rest := [0xD4#8]) rfl rfl
theorem set_2_L : Statement .set_2_L := of_bytes (b0 := 0xCB#8) (rest := [0xD5#8]) rfl rfl
theorem set_2_atHL : Statement .set_2_atHL := of_bytes (b0 := 0xCB#8) (rest := [0xD6#8]) rfl rfl
theorem set_2_A : Statement .set_2_A := of_bytes (b0 := 0xCB#8) (rest := [0xD7#8]) rfl rfl
theorem set_3_B : Statement .set_3_B := of_bytes (b0 := 0xCB#8) (rest := [0xD8#8]) rfl rfl
theorem set_3_C : Statement .set_3_C := of_bytes (b0 := 0xCB#8) (rest := [0xD9#8]) rfl rfl
theorem set_3_D : Statement .set_3_D := of_bytes (b0 := 0xCB#8) (rest := [0xDA#8]) rfl rfl
theorem set_3_E : Statement .set_3_E := of_bytes (b0 := 0xCB#8) (rest := [0xDB#8]) rfl rfl
theorem set_3_H : Statement .set_3_H := of_bytes (b0 := 0xCB#8) (rest := [0xDC#8]) rfl rfl
theorem set_3_L : Statement .set_3_L := of_bytes (b0 := 0xCB#8) (rest := [0xDD#8]) rfl rfl
theorem set_3_atHL : Statement .set_3_atHL := of_bytes (b0 := 0xCB#8) (rest := [0xDE#8]) rfl rfl
theorem set_3_A : Statement .set_3_A := of_bytes (b0 := 0xCB#8) (rest := [0xDF#8]) rfl rfl
theorem set_4_B : Statement .set_4_B := of_bytes (b0 := 0xCB#8) (rest := [0xE0#8]) rfl rfl
theorem set_4_C : Statement .set_4_C := of_bytes (b0 := 0xCB#8) (rest := [0xE1#8]) rfl rfl
theorem set_4_D : Statement .set_4_D := of_bytes (b0 := 0xCB#8) (rest := [0xE2#8]) rfl rfl
theorem set_4_E : Statement .set_4_E := of_bytes (b0 := 0xCB#8) (rest := [0xE3#8]) rfl rfl
theorem set_4_H : Statement .set_4_H := of_bytes (b0 := 0xCB#8) (rest := [0xE4#8]) rfl rfl
theorem set_4_L : Statement .set_4_L := of_bytes (b0 := 0xCB#8) (rest := [0xE5#8]) rfl rfl
theorem set_4_atHL : Statement .set_4_atHL := of_bytes (b0 := 0xCB#8) (rest := [0xE6#8]) rfl rfl
theorem set_4_A : Statement .set_4_A := of_bytes (b0 := 0xCB#8) (rest := [0xE7#8]) rfl rfl
theorem set_5_B : Statement .set_5_B := of_bytes (b0 := 0xCB#8) (rest := [0xE8#8]) rfl rfl
theorem set_5_C : Statement .set_5_C := of_bytes (b0 := 0xCB#8) (rest := [0xE9#8]) rfl rfl
theorem set_5_D : Statement .set_5_D := of_bytes (b0 := 0xCB#8) (rest := [0xEA#8]) rfl rfl
theorem set_5_E : Statement .set_5_E := of_bytes (b0 := 0xCB#8) (rest := [0xEB#8]) rfl rfl
theorem set_5_H : Statement .set_5_H := of_bytes (b0 := 0xCB#8) (rest := [0xEC#8]) rfl rfl
theorem set_5_L : Statement .set_5_L := of_bytes (b0 := 0xCB#8) (rest := [0xED#8]) rfl rfl
theorem set_5_atHL : Statement .set_5_atHL := of_bytes (b0 := 0xCB#8) (rest := [0xEE#8]) rfl rfl
theorem set_5_A : Statement .set_5_A := of_bytes (b0 := 0xCB#8) (rest := [0xEF#8]) rfl rfl
theorem set_6_B : Statement .set_6_B := of_bytes (b0 := 0xCB#8) (rest := [0xF0#8]) rfl rfl
theorem set_6_C : Statement .set_6_C := of_bytes (b0 := 0xCB#8) (rest := [0xF1#8]) rfl rfl
theorem set_6_D : Statement .set_6_D := of_bytes (b0 := 0xCB#8) (rest := [0xF2#8]) rfl rfl
theorem set_6_E : Statement .set_6_E := of_bytes (b0 := 0xCB#8) (rest := [0xF3#8]) rfl rfl
theorem set_6_H : Statement .set_6_H := of_bytes (b0 := 0xCB#8) (rest := [0xF4#8]) rfl rfl
theorem set_6_L : Statement .set_6_L := of_bytes (b0 := 0xCB#8) (rest := [0xF5#8]) rfl rfl
theorem set_6_atHL : Statement .set_6_atHL := of_bytes (b0 := 0xCB#8) (rest := [0xF6#8]) rfl rfl
theorem set_6_A : Statement .set_6_A := of_bytes (b0 := 0xCB#8) (rest := [0xF7#8]) rfl rfl
theorem set_7_B : Statement .set_7_B := of_bytes (b0 := 0xCB#8) (rest := [0xF8#8]) rfl rfl
theorem set_7_C : Statement .set_7_C := of_bytes (b0 := 0xCB#8) (rest := [0xF9#8]) rfl rfl
theorem set_7_D : Statement .set_7_D := of_bytes (b0 := 0xCB#8) (rest := [0xFA#8]) rfl rfl
theorem set_7_E : Statement .set_7_E := of_bytes (b0 := 0xCB#8) (rest := [0xFB#8]) rfl rfl
theorem set_7_H : Statement .set_7_H := of_bytes (b0 := 0xCB#8) (rest := [0xFC#8]) rfl rfl
theorem set_7_L : Statement .set_7_L := of_bytes (b0 := 0xCB#8) (rest := [0xFD#8]) rfl rfl
theorem set_7_atHL : Statement .set_7_atHL := of_bytes (b0 := 0xCB#8) (rest := [0xFE#8]) rfl rfl
theorem set_7_A : Statement .set_7_A := of_bytes (b0 := 0xCB#8) (rest := [0xFF#8]) rfl rfl

end Sys2Proof.Laws.EncodedLength
end

