-- ==== Sys2Proof/Tests/Slice0.lean ====
section
/-! SUPPORT. The model's own tests: decoding every row of the opcode table, well-formedness, one step per vector of the
spec, and for each statement with hypotheses a witness that meets them. Expected results are the spec's. -/

namespace Sys2Proof.Tests

open Sys2Proof.Machine Sys2Proof.Claims

/-- Bytes placed from an address on. -/
def placed : Word → List Byte → State → State
  | _, [], s => s
  | x, v :: rest, s => placed (x + 1#16) rest (s.writeByte x v)

/-- A state with code at its PC. -/
def start (code : List Byte) (s : State) : State := placed s.pc code s

/-- A memory map with ROM below 0x8000 and a device window at 0xFF00 to 0xFF7F; RAM elsewhere. -/
def platform : State :=
  { State.reset with map := [⟨0x0000#16, 0x8000, .rom⟩, ⟨0xFF00#16, 0x80, .device⟩] }

/-! Well-formedness: the bare prefix is the one ill-formed term; the check refuses it whatever byte follows. -/

theorem test_wellFormed_refuses_prefix :
    (Instr.prefix_CB 0x00#8).wellFormed = false ∧ (Instr.prefix_CB 0xFF#8).wellFormed = false := by decide

theorem test_wellFormed_accepts_the_rest :
    Instr.nop.wellFormed = true ∧ Instr.rlc_B.wellFormed = true ∧ Instr.undefined_D3.wellFormed = true ∧
    (Instr.stop 0xFF#8).wellFormed = true := by decide

/-! Decoding: every row of the opcode table, by the grid of 30_encoding.md R88 (operand bytes zero) and the extended
table of R90; the words are the table's. -/

theorem test_decode_primary_0x :
    (List.range 16).map (fun lo => decodeTableWord 8 (0x0 + lo)) =
      [some .nop, some (.ld_BC_d16 0x0000#16), some .ld_atBC_A, some .inc_BC, some .inc_B, some .dec_B,
       some (.ld_B_d8 0x00#8), some .rlca, some (.ld_ata16_SP 0x0000#16), some .add_HL_BC, some .ld_A_atBC,
       some .dec_BC, some .inc_C, some .dec_C, some (.ld_C_d8 0x00#8), some .rrca] := rfl

theorem test_decode_primary_1x :
    (List.range 16).map (fun lo => decodeTableWord 8 (0x10 + lo)) =
      [some (.stop 0x00#8), some (.ld_DE_d16 0x0000#16), some .ld_atDE_A, some .inc_DE, some .inc_D,
       some .dec_D, some (.ld_D_d8 0x00#8), some .rla, some (.jr_e8 0x00#8), some .add_HL_DE, some .ld_A_atDE,
       some .dec_DE, some .inc_E, some .dec_E, some (.ld_E_d8 0x00#8), some .rra] := rfl

theorem test_decode_primary_2x :
    (List.range 16).map (fun lo => decodeTableWord 8 (0x20 + lo)) =
      [some (.jr_NZ_e8 0x00#8), some (.ld_HL_d16 0x0000#16), some .ld_atHLinc_A, some .inc_HL, some .inc_H,
       some .dec_H, some (.ld_H_d8 0x00#8), some .daa, some (.jr_Z_e8 0x00#8), some .add_HL_HL,
       some .ld_A_atHLinc, some .dec_HL, some .inc_L, some .dec_L, some (.ld_L_d8 0x00#8), some .cpl] := rfl

theorem test_decode_primary_3x :
    (List.range 16).map (fun lo => decodeTableWord 8 (0x30 + lo)) =
      [some (.jr_NC_e8 0x00#8), some (.ld_SP_d16 0x0000#16), some .ld_atHLdec_A, some .inc_SP, some .inc_atHL,
       some .dec_atHL, some (.ld_atHL_d8 0x00#8), some .scf, some (.jr_C_e8 0x00#8), some .add_HL_SP,
       some .ld_A_atHLdec, some .dec_SP, some .inc_A, some .dec_A, some (.ld_A_d8 0x00#8), some .ccf] := rfl

theorem test_decode_primary_4x :
    (List.range 16).map (fun lo => decodeTableWord 8 (0x40 + lo)) =
      [some .ld_B_B, some .ld_B_C, some .ld_B_D, some .ld_B_E, some .ld_B_H, some .ld_B_L, some .ld_B_atHL,
       some .ld_B_A, some .ld_C_B, some .ld_C_C, some .ld_C_D, some .ld_C_E, some .ld_C_H, some .ld_C_L,
       some .ld_C_atHL, some .ld_C_A] := rfl

theorem test_decode_primary_5x :
    (List.range 16).map (fun lo => decodeTableWord 8 (0x50 + lo)) =
      [some .ld_D_B, some .ld_D_C, some .ld_D_D, some .ld_D_E, some .ld_D_H, some .ld_D_L, some .ld_D_atHL,
       some .ld_D_A, some .ld_E_B, some .ld_E_C, some .ld_E_D, some .ld_E_E, some .ld_E_H, some .ld_E_L,
       some .ld_E_atHL, some .ld_E_A] := rfl

theorem test_decode_primary_6x :
    (List.range 16).map (fun lo => decodeTableWord 8 (0x60 + lo)) =
      [some .ld_H_B, some .ld_H_C, some .ld_H_D, some .ld_H_E, some .ld_H_H, some .ld_H_L, some .ld_H_atHL,
       some .ld_H_A, some .ld_L_B, some .ld_L_C, some .ld_L_D, some .ld_L_E, some .ld_L_H, some .ld_L_L,
       some .ld_L_atHL, some .ld_L_A] := rfl

theorem test_decode_primary_7x :
    (List.range 16).map (fun lo => decodeTableWord 8 (0x70 + lo)) =
      [some .ld_atHL_B, some .ld_atHL_C, some .ld_atHL_D, some .ld_atHL_E, some .ld_atHL_H, some .ld_atHL_L,
       some .halt, some .ld_atHL_A, some .ld_A_B, some .ld_A_C, some .ld_A_D, some .ld_A_E, some .ld_A_H,
       some .ld_A_L, some .ld_A_atHL, some .ld_A_A] := rfl

theorem test_decode_primary_8x :
    (List.range 16).map (fun lo => decodeTableWord 8 (0x80 + lo)) =
      [some .add_A_B, some .add_A_C, some .add_A_D, some .add_A_E, some .add_A_H, some .add_A_L,
       some .add_A_atHL, some .add_A_A, some .adc_A_B, some .adc_A_C, some .adc_A_D, some .adc_A_E,
       some .adc_A_H, some .adc_A_L, some .adc_A_atHL, some .adc_A_A] := rfl

theorem test_decode_primary_9x :
    (List.range 16).map (fun lo => decodeTableWord 8 (0x90 + lo)) =
      [some .sub_A_B, some .sub_A_C, some .sub_A_D, some .sub_A_E, some .sub_A_H, some .sub_A_L,
       some .sub_A_atHL, some .sub_A_A, some .sbc_A_B, some .sbc_A_C, some .sbc_A_D, some .sbc_A_E,
       some .sbc_A_H, some .sbc_A_L, some .sbc_A_atHL, some .sbc_A_A] := rfl

theorem test_decode_primary_Ax :
    (List.range 16).map (fun lo => decodeTableWord 8 (0xA0 + lo)) =
      [some .and_A_B, some .and_A_C, some .and_A_D, some .and_A_E, some .and_A_H, some .and_A_L,
       some .and_A_atHL, some .and_A_A, some .xor_A_B, some .xor_A_C, some .xor_A_D, some .xor_A_E,
       some .xor_A_H, some .xor_A_L, some .xor_A_atHL, some .xor_A_A] := rfl

theorem test_decode_primary_Bx :
    (List.range 16).map (fun lo => decodeTableWord 8 (0xB0 + lo)) =
      [some .or_A_B, some .or_A_C, some .or_A_D, some .or_A_E, some .or_A_H, some .or_A_L, some .or_A_atHL,
       some .or_A_A, some .cp_A_B, some .cp_A_C, some .cp_A_D, some .cp_A_E, some .cp_A_H, some .cp_A_L,
       some .cp_A_atHL, some .cp_A_A] := rfl

theorem test_decode_primary_Cx :
    (List.range 16).map (fun lo => decodeTableWord 8 (0xC0 + lo)) =
      [some .ret_NZ, some .pop_BC, some (.jp_NZ_a16 0x0000#16), some (.jp_a16 0x0000#16),
       some (.call_NZ_a16 0x0000#16), some .push_BC, some (.add_A_d8 0x00#8), some .rst_00h, some .ret_Z,
       some .ret, some (.jp_Z_a16 0x0000#16), some .rlc_B, some (.call_Z_a16 0x0000#16),
       some (.call_a16 0x0000#16), some (.adc_A_d8 0x00#8), some .rst_08h] := rfl

theorem test_decode_primary_Dx :
    (List.range 16).map (fun lo => decodeTableWord 8 (0xD0 + lo)) =
      [some .ret_NC, some .pop_DE, some (.jp_NC_a16 0x0000#16), some .undefined_D3,
       some (.call_NC_a16 0x0000#16), some .push_DE, some (.sub_A_d8 0x00#8), some .rst_10h, some .ret_C,
       some .reti, some (.jp_C_a16 0x0000#16), some .undefined_DB, some (.call_C_a16 0x0000#16),
       some .undefined_DD, some (.sbc_A_d8 0x00#8), some .rst_18h] := rfl

theorem test_decode_primary_Ex :
    (List.range 16).map (fun lo => decodeTableWord 8 (0xE0 + lo)) =
      [some (.ldh_ata8_A 0x00#8), some .pop_HL, some .ld_atC_A, some .undefined_E3, some .undefined_E4,
       some .push_HL, some (.and_A_d8 0x00#8), some .rst_20h, some (.add_SP_e8 0x00#8), some .jp_HL,
       some (.ld_ata16_A 0x0000#16), some .undefined_EB, some .undefined_EC, some .undefined_ED,
       some (.xor_A_d8 0x00#8), some .rst_28h] := rfl

theorem test_decode_primary_Fx :
    (List.range 16).map (fun lo => decodeTableWord 8 (0xF0 + lo)) =
      [some (.ldh_A_ata8 0x00#8), some .pop_AF, some .ld_A_atC, some .di, some .undefined_F4, some .push_AF,
       some (.or_A_d8 0x00#8), some .rst_30h, some (.ld_HL_SP_e8 0x00#8), some .ld_SP_HL,
       some (.ld_A_ata16 0x0000#16), some .ei, some .undefined_FC, some .undefined_FD, some (.cp_A_d8 0x00#8),
       some .rst_38h] := rfl

theorem test_decode_extended_0x :
    (List.range 16).map (fun lo => decodeTableWord 16 (0xCB00 + lo)) =
      [some .rlc_B, some .rlc_C, some .rlc_D, some .rlc_E, some .rlc_H, some .rlc_L, some .rlc_atHL,
       some .rlc_A, some .rrc_B, some .rrc_C, some .rrc_D, some .rrc_E, some .rrc_H, some .rrc_L,
       some .rrc_atHL, some .rrc_A] := rfl

theorem test_decode_extended_1x :
    (List.range 16).map (fun lo => decodeTableWord 16 (0xCB10 + lo)) =
      [some .rl_B, some .rl_C, some .rl_D, some .rl_E, some .rl_H, some .rl_L, some .rl_atHL, some .rl_A,
       some .rr_B, some .rr_C, some .rr_D, some .rr_E, some .rr_H, some .rr_L, some .rr_atHL, some .rr_A] := rfl

theorem test_decode_extended_2x :
    (List.range 16).map (fun lo => decodeTableWord 16 (0xCB20 + lo)) =
      [some .sla_B, some .sla_C, some .sla_D, some .sla_E, some .sla_H, some .sla_L, some .sla_atHL,
       some .sla_A, some .sra_B, some .sra_C, some .sra_D, some .sra_E, some .sra_H, some .sra_L,
       some .sra_atHL, some .sra_A] := rfl

theorem test_decode_extended_3x :
    (List.range 16).map (fun lo => decodeTableWord 16 (0xCB30 + lo)) =
      [some .swap_B, some .swap_C, some .swap_D, some .swap_E, some .swap_H, some .swap_L, some .swap_atHL,
       some .swap_A, some .srl_B, some .srl_C, some .srl_D, some .srl_E, some .srl_H, some .srl_L,
       some .srl_atHL, some .srl_A] := rfl

theorem test_decode_extended_4x :
    (List.range 16).map (fun lo => decodeTableWord 16 (0xCB40 + lo)) =
      [some .bit_0_B, some .bit_0_C, some .bit_0_D, some .bit_0_E, some .bit_0_H, some .bit_0_L,
       some .bit_0_atHL, some .bit_0_A, some .bit_1_B, some .bit_1_C, some .bit_1_D, some .bit_1_E,
       some .bit_1_H, some .bit_1_L, some .bit_1_atHL, some .bit_1_A] := rfl

theorem test_decode_extended_5x :
    (List.range 16).map (fun lo => decodeTableWord 16 (0xCB50 + lo)) =
      [some .bit_2_B, some .bit_2_C, some .bit_2_D, some .bit_2_E, some .bit_2_H, some .bit_2_L,
       some .bit_2_atHL, some .bit_2_A, some .bit_3_B, some .bit_3_C, some .bit_3_D, some .bit_3_E,
       some .bit_3_H, some .bit_3_L, some .bit_3_atHL, some .bit_3_A] := rfl

theorem test_decode_extended_6x :
    (List.range 16).map (fun lo => decodeTableWord 16 (0xCB60 + lo)) =
      [some .bit_4_B, some .bit_4_C, some .bit_4_D, some .bit_4_E, some .bit_4_H, some .bit_4_L,
       some .bit_4_atHL, some .bit_4_A, some .bit_5_B, some .bit_5_C, some .bit_5_D, some .bit_5_E,
       some .bit_5_H, some .bit_5_L, some .bit_5_atHL, some .bit_5_A] := rfl

theorem test_decode_extended_7x :
    (List.range 16).map (fun lo => decodeTableWord 16 (0xCB70 + lo)) =
      [some .bit_6_B, some .bit_6_C, some .bit_6_D, some .bit_6_E, some .bit_6_H, some .bit_6_L,
       some .bit_6_atHL, some .bit_6_A, some .bit_7_B, some .bit_7_C, some .bit_7_D, some .bit_7_E,
       some .bit_7_H, some .bit_7_L, some .bit_7_atHL, some .bit_7_A] := rfl

theorem test_decode_extended_8x :
    (List.range 16).map (fun lo => decodeTableWord 16 (0xCB80 + lo)) =
      [some .res_0_B, some .res_0_C, some .res_0_D, some .res_0_E, some .res_0_H, some .res_0_L,
       some .res_0_atHL, some .res_0_A, some .res_1_B, some .res_1_C, some .res_1_D, some .res_1_E,
       some .res_1_H, some .res_1_L, some .res_1_atHL, some .res_1_A] := rfl

theorem test_decode_extended_9x :
    (List.range 16).map (fun lo => decodeTableWord 16 (0xCB90 + lo)) =
      [some .res_2_B, some .res_2_C, some .res_2_D, some .res_2_E, some .res_2_H, some .res_2_L,
       some .res_2_atHL, some .res_2_A, some .res_3_B, some .res_3_C, some .res_3_D, some .res_3_E,
       some .res_3_H, some .res_3_L, some .res_3_atHL, some .res_3_A] := rfl

theorem test_decode_extended_Ax :
    (List.range 16).map (fun lo => decodeTableWord 16 (0xCBA0 + lo)) =
      [some .res_4_B, some .res_4_C, some .res_4_D, some .res_4_E, some .res_4_H, some .res_4_L,
       some .res_4_atHL, some .res_4_A, some .res_5_B, some .res_5_C, some .res_5_D, some .res_5_E,
       some .res_5_H, some .res_5_L, some .res_5_atHL, some .res_5_A] := rfl

theorem test_decode_extended_Bx :
    (List.range 16).map (fun lo => decodeTableWord 16 (0xCBB0 + lo)) =
      [some .res_6_B, some .res_6_C, some .res_6_D, some .res_6_E, some .res_6_H, some .res_6_L,
       some .res_6_atHL, some .res_6_A, some .res_7_B, some .res_7_C, some .res_7_D, some .res_7_E,
       some .res_7_H, some .res_7_L, some .res_7_atHL, some .res_7_A] := rfl

theorem test_decode_extended_Cx :
    (List.range 16).map (fun lo => decodeTableWord 16 (0xCBC0 + lo)) =
      [some .set_0_B, some .set_0_C, some .set_0_D, some .set_0_E, some .set_0_H, some .set_0_L,
       some .set_0_atHL, some .set_0_A, some .set_1_B, some .set_1_C, some .set_1_D, some .set_1_E,
       some .set_1_H, some .set_1_L, some .set_1_atHL, some .set_1_A] := rfl

theorem test_decode_extended_Dx :
    (List.range 16).map (fun lo => decodeTableWord 16 (0xCBD0 + lo)) =
      [some .set_2_B, some .set_2_C, some .set_2_D, some .set_2_E, some .set_2_H, some .set_2_L,
       some .set_2_atHL, some .set_2_A, some .set_3_B, some .set_3_C, some .set_3_D, some .set_3_E,
       some .set_3_H, some .set_3_L, some .set_3_atHL, some .set_3_A] := rfl

theorem test_decode_extended_Ex :
    (List.range 16).map (fun lo => decodeTableWord 16 (0xCBE0 + lo)) =
      [some .set_4_B, some .set_4_C, some .set_4_D, some .set_4_E, some .set_4_H, some .set_4_L,
       some .set_4_atHL, some .set_4_A, some .set_5_B, some .set_5_C, some .set_5_D, some .set_5_E,
       some .set_5_H, some .set_5_L, some .set_5_atHL, some .set_5_A] := rfl

theorem test_decode_extended_Fx :
    (List.range 16).map (fun lo => decodeTableWord 16 (0xCBF0 + lo)) =
      [some .set_6_B, some .set_6_C, some .set_6_D, some .set_6_E, some .set_6_H, some .set_6_L,
       some .set_6_atHL, some .set_6_A, some .set_7_B, some .set_7_C, some .set_7_D, some .set_7_E,
       some .set_7_H, some .set_7_L, some .set_7_atHL, some .set_7_A] := rfl

/-! One step each, from 95_test_vectors.md Part 2 (the spec's derived vectors; V<n> is the vector's name). -/

theorem test_V1_ADD_A_B :
    let s := start [0x80#8] { State.reset with a := 0x3A#8, b := 0xC6#8, f := 0x00#8 }
    step s = .next { s with a := 0x00#8, f := 0xB0#8, pc := 0x0101#16, cycles := 1 } := rfl

theorem test_V4_ADD_A_HL :
    let s := start [0x86#8] (State.writeByte 0xC000#16 0xFF#8 { State.reset with a := 0x01#8, h := 0xC0#8, l := 0x00#8, f := 0x00#8 })
    step s = .next { s with a := 0x00#8, f := 0xB0#8, pc := 0x0101#16, cycles := 2 } := rfl

theorem test_V6_ADC_A_C :
    let s := start [0x89#8] { State.reset with a := 0x0F#8, c := 0x00#8, f := 0x10#8 }
    step s = .next { s with a := 0x10#8, f := 0x20#8, pc := 0x0101#16, cycles := 1 } := rfl

theorem test_V7_ADC_A_d8 :
    let s := start [0xCE#8, 0xFF#8] { State.reset with a := 0xFF#8, f := 0x10#8 }
    step s = .next { s with f := 0x30#8, pc := 0x0102#16, cycles := 2 } := rfl

theorem test_V11_SUB_A_d8 :
    let s := start [0xD6#8, 0x0F#8] { State.reset with a := 0x3E#8, f := 0x00#8 }
    step s = .next { s with a := 0x2F#8, f := 0x60#8, pc := 0x0102#16, cycles := 2 } := rfl

theorem test_V12_SUB_A_HL :
    let s := start [0x96#8] (State.writeByte 0xC000#16 0x40#8 { State.reset with a := 0x3E#8, h := 0xC0#8, l := 0x00#8, f := 0x00#8 })
    step s = .next { s with a := 0xFE#8, f := 0x50#8, pc := 0x0101#16, cycles := 2 } := rfl

theorem test_V14_SBC_A_H :
    let s := start [0x9C#8] { State.reset with a := 0x3B#8, h := 0x2A#8, f := 0x10#8 }
    step s = .next { s with a := 0x10#8, f := 0x40#8, pc := 0x0101#16, cycles := 1 } := rfl

theorem test_V15_SBC_A_d8 :
    let s := start [0xDE#8, 0xFF#8] { State.reset with a := 0x00#8, f := 0x10#8 }
    step s = .next { s with f := 0xF0#8, pc := 0x0102#16, cycles := 2 } := rfl

theorem test_V18_AND_A_L :
    let s := start [0xA5#8] { State.reset with a := 0x5A#8, l := 0x3F#8, f := 0x50#8 }
    step s = .next { s with a := 0x1A#8, f := 0x20#8, pc := 0x0101#16, cycles := 1 } := rfl

theorem test_V19_AND_A_d8 :
    let s := start [0xE6#8, 0x00#8] { State.reset with a := 0xFF#8, f := 0x10#8 }
    step s = .next { s with a := 0x00#8, f := 0xA0#8, pc := 0x0102#16, cycles := 2 } := rfl

theorem test_V20_XOR_A_A :
    let s := start [0xAF#8] { State.reset with a := 0x77#8, f := 0xF0#8 }
    step s = .next { s with a := 0x00#8, f := 0x80#8, pc := 0x0101#16, cycles := 1 } := rfl

theorem test_V22_OR_A_C :
    let s := start [0xB1#8] { State.reset with a := 0x00#8, c := 0x00#8, f := 0x70#8 }
    step s = .next { s with f := 0x80#8, pc := 0x0101#16, cycles := 1 } := rfl

theorem test_V24_CP_A_B :
    let s := start [0xB8#8] { State.reset with a := 0x3C#8, b := 0x2F#8, f := 0x00#8 }
    step s = .next { s with f := 0x60#8, pc := 0x0101#16, cycles := 1 } := rfl

theorem test_V26_CP_A_HL :
    let s := start [0xBE#8] (State.writeByte 0xC000#16 0x40#8 { State.reset with a := 0x3C#8, h := 0xC0#8, l := 0x00#8, f := 0x00#8 })
    step s = .next { s with f := 0x50#8, pc := 0x0101#16, cycles := 2 } := rfl

theorem test_V27_INC_A :
    let s := start [0x3C#8] { State.reset with a := 0xFF#8, f := 0x10#8 }
    step s = .next { s with a := 0x00#8, f := 0xB0#8, pc := 0x0101#16, cycles := 1 } := rfl

theorem test_V29_INC_B :
    let s := start [0x04#8] { State.reset with b := 0x0F#8, f := 0xC0#8 }
    step s = .next { s with f := 0x20#8, b := 0x10#8, pc := 0x0101#16, cycles := 1 } := rfl

theorem test_V30_INC_HL :
    let s := start [0x34#8] (State.writeByte 0xC000#16 0x4F#8 { State.reset with h := 0xC0#8, l := 0x00#8, f := 0x00#8 })
    step s = .next (State.writeByte 0xC000#16 0x50#8 { s with f := 0x20#8, pc := 0x0101#16, cycles := 3 }) := rfl

theorem test_V31_DEC_A :
    let s := start [0x3D#8] { State.reset with a := 0x00#8, f := 0x00#8 }
    step s = .next { s with a := 0xFF#8, f := 0x60#8, pc := 0x0101#16, cycles := 1 } := rfl

theorem test_V34_DEC_HL :
    let s := start [0x35#8] (State.writeByte 0xC000#16 0x00#8 { State.reset with h := 0xC0#8, l := 0x00#8, f := 0x10#8 })
    step s = .next (State.writeByte 0xC000#16 0xFF#8 { s with f := 0x70#8, pc := 0x0101#16, cycles := 3 }) := rfl

theorem test_V36_DAA :
    let s := start [0x27#8] { State.reset with a := 0x9A#8, f := 0x00#8 }
    step s = .next { s with a := 0x00#8, f := 0x90#8, pc := 0x0101#16, cycles := 1 } := rfl

theorem test_V39_DAA :
    let s := start [0x27#8] { State.reset with a := 0x4B#8, f := 0x60#8 }
    step s = .next { s with a := 0x45#8, f := 0x40#8, pc := 0x0101#16, cycles := 1 } := rfl

theorem test_V43_CPL :
    let s := start [0x2F#8] { State.reset with a := 0x35#8, f := 0x90#8 }
    step s = .next { s with a := 0xCA#8, f := 0xF0#8, pc := 0x0101#16, cycles := 1 } := rfl

theorem test_V44_SCF :
    let s := start [0x37#8] { State.reset with f := 0xE0#8 }
    step s = .next { s with f := 0x90#8, pc := 0x0101#16, cycles := 1 } := rfl

theorem test_V45_CCF :
    let s := start [0x3F#8] { State.reset with f := 0xF0#8 }
    step s = .next { s with f := 0x80#8, pc := 0x0101#16, cycles := 1 } := rfl

theorem test_V47_ADD_HL_BC :
    let s := start [0x09#8] { State.reset with h := 0x8A#8, l := 0x23#8, b := 0x06#8, c := 0x05#8, f := 0x80#8 }
    step s = .next { s with f := 0xA0#8, h := 0x90#8, l := 0x28#8, pc := 0x0101#16, cycles := 2 } := rfl

theorem test_V50_ADD_HL_SP :
    let s := start [0x39#8] { State.reset with h := 0x00#8, l := 0x01#8, sp := 0xFFFF#16, f := 0x00#8 }
    step s = .next { s with f := 0x30#8, l := 0x00#8, pc := 0x0101#16, cycles := 2 } := rfl

theorem test_V51_INC_BC :
    let s := start [0x03#8] { State.reset with b := 0xFF#8, c := 0xFF#8, f := 0x00#8 }
    step s = .next { s with b := 0x00#8, c := 0x00#8, pc := 0x0101#16, cycles := 2 } := rfl

theorem test_V53_DEC_DE :
    let s := start [0x1B#8] { State.reset with d := 0x00#8, e := 0x00#8, f := 0x00#8 }
    step s = .next { s with d := 0xFF#8, e := 0xFF#8, pc := 0x0101#16, cycles := 2 } := rfl

theorem test_V55_ADD_SP_e8 :
    let s := start [0xE8#8, 0x02#8] { State.reset with sp := 0xFFF8#16, f := 0xF0#8 }
    step s = .next { s with f := 0x00#8, sp := 0xFFFA#16, pc := 0x0102#16, cycles := 4 } := rfl

theorem test_V59_ADD_SP_e8 :
    let s := start [0xE8#8, 0x80#8] { State.reset with sp := 0x0080#16, f := 0x00#8 }
    step s = .next { s with f := 0x10#8, sp := 0x0000#16, pc := 0x0102#16, cycles := 4 } := rfl

theorem test_V60_LD_HL_SP_e8 :
    let s := start [0xF8#8, 0x02#8] { State.reset with sp := 0xFFFE#16, f := 0xF0#8 }
    step s = .next { s with f := 0x30#8, h := 0x00#8, l := 0x00#8, pc := 0x0102#16, cycles := 3 } := rfl

theorem test_V63_LD_B_A :
    let s := start [0x47#8] { State.reset with a := 0x5A#8, f := 0xF0#8 }
    step s = .next { s with b := 0x5A#8, pc := 0x0101#16, cycles := 1 } := rfl

theorem test_V64_LD_H_L :
    let s := start [0x65#8] { State.reset with h := 0x12#8, l := 0xCD#8 }
    step s = .next { s with h := 0xCD#8, pc := 0x0101#16, cycles := 1 } := rfl

theorem test_V66_LD_C_d8 :
    let s := start [0x0E#8, 0x99#8] State.reset
    step s = .next { s with c := 0x99#8, pc := 0x0102#16, cycles := 2 } := rfl

theorem test_V67_LD_E_HL :
    let s := start [0x5E#8] (State.writeByte 0xC123#16 0x42#8 { State.reset with h := 0xC1#8, l := 0x23#8 })
    step s = .next { s with e := 0x42#8, pc := 0x0101#16, cycles := 2 } := rfl

theorem test_V68_LD_H_HL :
    let s := start [0x66#8] (State.writeByte 0xC123#16 0x42#8 { State.reset with h := 0xC1#8, l := 0x23#8 })
    step s = .next { s with h := 0x42#8, pc := 0x0101#16, cycles := 2 } := rfl

theorem test_V69_LD_HL_D :
    let s := start [0x72#8] { State.reset with h := 0xC2#8, l := 0x00#8, d := 0xEE#8 }
    step s = .next (State.writeByte 0xC200#16 0xEE#8 { s with pc := 0x0101#16, cycles := 2 }) := rfl

theorem test_V70_LD_HL_L :
    let s := start [0x75#8] { State.reset with h := 0xC2#8, l := 0x34#8 }
    step s = .next (State.writeByte 0xC234#16 0x34#8 { s with pc := 0x0101#16, cycles := 2 }) := rfl

theorem test_V71_LD_HL_d8 :
    let s := start [0x36#8, 0xAB#8] { State.reset with h := 0xC0#8, l := 0x00#8 }
    step s = .next (State.writeByte 0xC000#16 0xAB#8 { s with pc := 0x0102#16, cycles := 3 }) := rfl

theorem test_V72_LD_A_BC :
    let s := start [0x0A#8] (State.writeByte 0xC010#16 0x11#8 { State.reset with b := 0xC0#8, c := 0x10#8 })
    step s = .next { s with a := 0x11#8, pc := 0x0101#16, cycles := 2 } := rfl

theorem test_V73_LD_A_DE :
    let s := start [0x1A#8] (State.writeByte 0xC011#16 0x22#8 { State.reset with d := 0xC0#8, e := 0x11#8 })
    step s = .next { s with a := 0x22#8, pc := 0x0101#16, cycles := 2 } := rfl

theorem test_V74_LD_BC_A :
    let s := start [0x02#8] { State.reset with a := 0x33#8, b := 0xC0#8, c := 0x12#8 }
    step s = .next (State.writeByte 0xC012#16 0x33#8 { s with pc := 0x0101#16, cycles := 2 }) := rfl

theorem test_V75_LD_DE_A :
    let s := start [0x12#8] { State.reset with a := 0x44#8, d := 0xC0#8, e := 0x13#8 }
    step s = .next (State.writeByte 0xC013#16 0x44#8 { s with pc := 0x0101#16, cycles := 2 }) := rfl

theorem test_V76_LD_A_a16 :
    let s := start [0xFA#8, 0x34#8, 0xC2#8] (State.writeByte 0xC234#16 0x5C#8 State.reset)
    step s = .next { s with a := 0x5C#8, pc := 0x0103#16, cycles := 4 } := rfl

theorem test_V77_LD_a16_A :
    let s := start [0xEA#8, 0x00#8, 0xD0#8] { State.reset with a := 0x9F#8 }
    step s = .next (State.writeByte 0xD000#16 0x9F#8 { s with pc := 0x0103#16, cycles := 4 }) := rfl

theorem test_V78_LDH_A_a8 :
    let s := start [0xF0#8, 0x80#8] (State.writeByte 0xFF80#16 0x6D#8 State.reset)
    step s = .next { s with a := 0x6D#8, pc := 0x0102#16, cycles := 3 } := rfl

theorem test_V79_LDH_a8_A :
    let s := start [0xE0#8, 0xFF#8] { State.reset with a := 0x1F#8 }
    step s = .next (State.writeByte 0xFFFF#16 0x1F#8 { s with pc := 0x0102#16, cycles := 3 }) := rfl

theorem test_V80_LD_A_C :
    let s := start [0xF2#8] (State.writeByte 0xFF44#16 0x90#8 { State.reset with c := 0x44#8 })
    step s = .next { s with a := 0x90#8, pc := 0x0101#16, cycles := 2 } := rfl

theorem test_V81_LD_C_A :
    let s := start [0xE2#8] { State.reset with a := 0x81#8, c := 0x40#8 }
    step s = .next (State.writeByte 0xFF40#16 0x81#8 { s with pc := 0x0101#16, cycles := 2 }) := rfl

theorem test_V83_LD_HLinc_A :
    let s := start [0x22#8] { State.reset with a := 0x55#8, h := 0xFF#8, l := 0xFF#8 }
    step s = .next (State.writeByte 0xFFFF#16 0x55#8 { s with h := 0x00#8, l := 0x00#8, pc := 0x0101#16, cycles := 2 }) := rfl

theorem test_V85_LD_HLdec_A :
    let s := start [0x32#8] { State.reset with a := 0x66#8, h := 0x00#8, l := 0x00#8 }
    step s = .next (State.writeByte 0x0000#16 0x66#8 { s with h := 0xFF#8, l := 0xFF#8, pc := 0x0101#16, cycles := 2 }) := rfl

theorem test_V86_LD_A_HLinc :
    let s := start [0x2A#8] (State.writeByte 0xC0FF#16 0x77#8 { State.reset with h := 0xC0#8, l := 0xFF#8 })
    step s = .next { s with a := 0x77#8, h := 0xC1#8, l := 0x00#8, pc := 0x0101#16, cycles := 2 } := rfl

theorem test_V87_LD_A_HLdec :
    let s := start [0x3A#8] (State.writeByte 0xC100#16 0x88#8 { State.reset with h := 0xC1#8, l := 0x00#8 })
    step s = .next { s with a := 0x88#8, h := 0xC0#8, l := 0xFF#8, pc := 0x0101#16, cycles := 2 } := rfl

theorem test_V88_LD_BC_d16 :
    let s := start [0x01#8, 0x34#8, 0x12#8] State.reset
    step s = .next { s with b := 0x12#8, c := 0x34#8, pc := 0x0103#16, cycles := 3 } := rfl

theorem test_V90_LD_a16_SP :
    let s := start [0x08#8, 0x00#8, 0xC1#8] { State.reset with sp := 0xFFF8#16 }
    step s = .next (State.writeByte 0xC101#16 0xFF#8 (State.writeByte 0xC100#16 0xF8#8 { s with pc := 0x0103#16, cycles := 5 })) := rfl

theorem test_V91_LD_a16_SP :
    let s := start [0x08#8, 0xFF#8, 0xFF#8] { State.reset with sp := 0xABCD#16 }
    step s = .next (State.writeByte 0xFFFF#16 0xCD#8 (State.writeByte 0x0000#16 0xAB#8 { s with pc := 0x0103#16, cycles := 5 })) := rfl

theorem test_V94_PUSH_AF :
    let s := start [0xF5#8] { State.reset with a := 0x12#8, f := 0xB0#8, sp := 0xD000#16 }
    step s = .next (State.writeByte 0xCFFF#16 0x12#8 (State.writeByte 0xCFFE#16 0xB0#8 { s with sp := 0xCFFE#16, pc := 0x0101#16, cycles := 4 })) := rfl

theorem test_V95_PUSH_HL :
    let s := start [0xE5#8] { State.reset with h := 0xBE#8, l := 0xEF#8, sp := 0x0001#16 }
    step s = .next (State.writeByte 0xFFFF#16 0xEF#8 (State.writeByte 0x0000#16 0xBE#8 { s with sp := 0xFFFF#16, pc := 0x0101#16, cycles := 4 })) := rfl

theorem test_V97_POP_AF :
    let s := start [0xF1#8] (State.writeByte 0xCFFF#16 0x12#8 (State.writeByte 0xCFFE#16 0xFF#8 { State.reset with sp := 0xCFFE#16 }))
    step s = .next { s with a := 0x12#8, f := 0xF0#8, sp := 0xD000#16, pc := 0x0101#16, cycles := 3 } := rfl

theorem test_V99_POP_HL :
    let s := start [0xE1#8] (State.writeByte 0x0000#16 0x12#8 (State.writeByte 0xFFFF#16 0x34#8 { State.reset with sp := 0xFFFF#16 }))
    step s = .next { s with h := 0x12#8, l := 0x34#8, sp := 0x0001#16, pc := 0x0101#16, cycles := 3 } := rfl

theorem test_V101_RLCA :
    let s := start [0x07#8] { State.reset with a := 0x00#8, f := 0xF0#8 }
    step s = .next { s with f := 0x00#8, pc := 0x0101#16, cycles := 1 } := rfl

theorem test_V102_RRCA :
    let s := start [0x0F#8] { State.reset with a := 0x01#8, f := 0x00#8 }
    step s = .next { s with a := 0x80#8, f := 0x10#8, pc := 0x0101#16, cycles := 1 } := rfl

theorem test_V104_RLA :
    let s := start [0x17#8] { State.reset with a := 0x95#8, f := 0x10#8 }
    step s = .next { s with a := 0x2B#8, pc := 0x0101#16, cycles := 1 } := rfl

theorem test_V106_RRA :
    let s := start [0x1F#8] { State.reset with a := 0x81#8, f := 0x10#8 }
    step s = .next { s with a := 0xC0#8, pc := 0x0101#16, cycles := 1 } := rfl

theorem test_V108_RLC_HL :
    let s := start [0xCB#8, 0x06#8] (State.writeByte 0xC000#16 0x80#8 { State.reset with h := 0xC0#8, l := 0x00#8, f := 0x00#8 })
    step s = .next (State.writeByte 0xC000#16 0x01#8 { s with f := 0x10#8, pc := 0x0102#16, cycles := 4 }) := rfl

theorem test_V109_RRC_C :
    let s := start [0xCB#8, 0x09#8] { State.reset with c := 0x01#8, f := 0x00#8 }
    step s = .next { s with f := 0x10#8, c := 0x80#8, pc := 0x0102#16, cycles := 2 } := rfl

theorem test_V111_RL_HL :
    let s := start [0xCB#8, 0x16#8] (State.writeByte 0xC000#16 0x11#8 { State.reset with h := 0xC0#8, l := 0x00#8, f := 0x10#8 })
    step s = .next (State.writeByte 0xC000#16 0x23#8 { s with f := 0x00#8, pc := 0x0102#16, cycles := 4 }) := rfl

theorem test_V113_RR_A :
    let s := start [0xCB#8, 0x1F#8] { State.reset with a := 0x00#8, f := 0x10#8 }
    step s = .next { s with a := 0x80#8, f := 0x00#8, pc := 0x0102#16, cycles := 2 } := rfl

theorem test_V115_SLA_L :
    let s := start [0xCB#8, 0x25#8] { State.reset with l := 0xFF#8, f := 0x00#8 }
    step s = .next { s with f := 0x10#8, l := 0xFE#8, pc := 0x0102#16, cycles := 2 } := rfl

theorem test_V117_SRA_HL :
    let s := start [0xCB#8, 0x2E#8] (State.writeByte 0xC000#16 0x01#8 { State.reset with h := 0xC0#8, l := 0x00#8, f := 0x00#8 })
    step s = .next (State.writeByte 0xC000#16 0x00#8 { s with f := 0x90#8, pc := 0x0102#16, cycles := 4 }) := rfl

theorem test_V119_SWAP_HL :
    let s := start [0xCB#8, 0x36#8] (State.writeByte 0xC000#16 0x00#8 { State.reset with h := 0xC0#8, l := 0x00#8, f := 0x10#8 })
    step s = .next (State.writeByte 0xC000#16 0x00#8 { s with f := 0x80#8, pc := 0x0102#16, cycles := 4 }) := rfl

theorem test_V121_SRL_HL :
    let s := start [0xCB#8, 0x3E#8] (State.writeByte 0xC000#16 0xFF#8 { State.reset with h := 0xC0#8, l := 0x00#8, f := 0x00#8 })
    step s = .next (State.writeByte 0xC000#16 0x7F#8 { s with f := 0x10#8, pc := 0x0102#16, cycles := 4 }) := rfl

theorem test_V123_BIT_4_L :
    let s := start [0xCB#8, 0x65#8] { State.reset with l := 0xEF#8, f := 0x00#8 }
    step s = .next { s with f := 0xA0#8, pc := 0x0102#16, cycles := 2 } := rfl

theorem test_V124_BIT_0_HL :
    let s := start [0xCB#8, 0x46#8] (State.writeByte 0xC000#16 0xFE#8 { State.reset with h := 0xC0#8, l := 0x00#8, f := 0x10#8 })
    step s = .next { s with f := 0xB0#8, pc := 0x0102#16, cycles := 3 } := rfl

theorem test_V127_RES_0_B :
    let s := start [0xCB#8, 0x80#8] { State.reset with b := 0x00#8, f := 0x00#8 }
    step s = .next { s with pc := 0x0102#16, cycles := 2 } := rfl

theorem test_V128_RES_3_HL :
    let s := start [0xCB#8, 0x9E#8] (State.writeByte 0xC000#16 0xFF#8 { State.reset with h := 0xC0#8, l := 0x00#8, f := 0xF0#8 })
    step s = .next (State.writeByte 0xC000#16 0xF7#8 { s with pc := 0x0102#16, cycles := 4 }) := rfl

theorem test_V131_SET_7_HL :
    let s := start [0xCB#8, 0xFE#8] (State.writeByte 0xC000#16 0x00#8 { State.reset with h := 0xC0#8, l := 0x00#8, f := 0x00#8 })
    step s = .next (State.writeByte 0xC000#16 0x80#8 { s with pc := 0x0102#16, cycles := 4 }) := rfl

theorem test_V132_JP_NZ_a16 :
    let s := start [0xC2#8, 0x00#8, 0x02#8] { State.reset with f := 0x80#8 }
    step s = .next { s with pc := 0x0103#16, cycles := 3 } := rfl

theorem test_V133_JP_NZ_a16 :
    let s := start [0xC2#8, 0x00#8, 0x02#8] { State.reset with f := 0x00#8 }
    step s = .next { s with pc := 0x0200#16, cycles := 4 } := rfl

theorem test_V135_JP_HL :
    let s := start [0xE9#8] { State.reset with h := 0x40#8, l := 0x00#8 }
    step s = .next { s with pc := 0x4000#16, cycles := 1 } := rfl

theorem test_V136_JR_e8 :
    let s := start [0x18#8, 0x05#8] State.reset
    step s = .next { s with pc := 0x0107#16, cycles := 3 } := rfl

theorem test_V138_JR_e8 :
    let s := start [0x18#8, 0x80#8] State.reset
    step s = .next { s with pc := 0x0082#16, cycles := 3 } := rfl

theorem test_V139_JR_Z_e8 :
    let s := start [0x28#8, 0x10#8] { State.reset with f := 0x00#8 }
    step s = .next { s with pc := 0x0102#16, cycles := 2 } := rfl

theorem test_V140_JR_Z_e8 :
    let s := start [0x28#8, 0x10#8] { State.reset with f := 0x80#8 }
    step s = .next { s with pc := 0x0112#16, cycles := 3 } := rfl

theorem test_V142_CALL_a16 :
    let s := start [0xCD#8, 0x00#8, 0x20#8] { State.reset with sp := 0xFFFE#16 }
    step s = .next (State.writeByte 0xFFFD#16 0x01#8 (State.writeByte 0xFFFC#16 0x03#8 { s with sp := 0xFFFC#16, pc := 0x2000#16, cycles := 6 })) := rfl

theorem test_V143_CALL_NZ_a16 :
    let s := start [0xC4#8, 0x00#8, 0x20#8] { State.reset with f := 0x80#8 }
    step s = .next { s with pc := 0x0103#16, cycles := 3 } := rfl

theorem test_V144_CALL_Z_a16 :
    let s := start [0xCC#8, 0x00#8, 0x20#8] { State.reset with f := 0x80#8, sp := 0xD000#16 }
    step s = .next (State.writeByte 0xCFFF#16 0x01#8 (State.writeByte 0xCFFE#16 0x03#8 { s with sp := 0xCFFE#16, pc := 0x2000#16, cycles := 6 })) := rfl

theorem test_V145_RET :
    let s := start [0xC9#8] (State.writeByte 0xFFFD#16 0x01#8 (State.writeByte 0xFFFC#16 0x53#8 { State.reset with sp := 0xFFFC#16 }))
    step s = .next { s with sp := 0xFFFE#16, pc := 0x0153#16, cycles := 4 } := rfl

theorem test_V146_RET_NC :
    let s := start [0xD0#8] (State.writeByte 0xFFFD#16 0x01#8 (State.writeByte 0xFFFC#16 0x53#8 { State.reset with f := 0x10#8, sp := 0xFFFC#16 }))
    step s = .next { s with pc := 0x0101#16, cycles := 2 } := rfl

theorem test_V147_RET_NC :
    let s := start [0xD0#8] (State.writeByte 0xFFFD#16 0x01#8 (State.writeByte 0xFFFC#16 0x53#8 { State.reset with f := 0x00#8, sp := 0xFFFC#16 }))
    step s = .next { s with sp := 0xFFFE#16, pc := 0x0153#16, cycles := 5 } := rfl

theorem test_V148_RETI :
    let s := start [0xD9#8] (State.writeByte 0xFFFD#16 0x12#8 (State.writeByte 0xFFFC#16 0x34#8 { State.reset with sp := 0xFFFC#16, ime := false }))
    step s = .next { s with sp := 0xFFFE#16, pc := 0x1234#16, ime := true, cycles := 4 } := rfl

theorem test_V149_RST_00h :
    let s := start [0xC7#8] { State.reset with sp := 0xD000#16 }
    step s = .next (State.writeByte 0xCFFF#16 0x01#8 (State.writeByte 0xCFFE#16 0x01#8 { s with sp := 0xCFFE#16, pc := 0x0000#16, cycles := 4 })) := rfl

theorem test_V152_HALT :
    let s := start [0x76#8] State.reset
    step s = .next { s with pc := 0x0101#16, halted := true, cycles := 1 } := rfl

theorem test_V153_STOP :
    let s := start [0x10#8, 0x00#8] State.reset
    step s = .next { s with pc := 0x0102#16, cycles := 1 } := rfl

theorem test_V154_DI :
    let s := start [0xF3#8] { State.reset with ime := true }
    step s = .next { s with pc := 0x0101#16, ime := false, cycles := 1 } := rfl

theorem test_V155_EI :
    let s := start [0xFB#8] { State.reset with ime := false }
    step s = .next { s with pc := 0x0101#16, ime := true, cycles := 1 } := rfl

theorem test_V156_undefined_D3 :
    let s := start [0xD3#8] State.reset
    step s = .fault (.unknownOpcode 0xD3#8 0x0100#16 0) := rfl

theorem test_V166_undefined_FD :
    let s := start [0xFD#8] State.reset
    step s = .fault (.unknownOpcode 0xFD#8 0x0100#16 0) := rfl

/-! Decoding words with operands written out from the formats of 30_encoding.md R81 (R86: low byte first). -/

theorem test_decode_immediates :
    decode [0x01#8, 0x34#8, 0x12#8] = .ok (.ld_BC_d16 0x1234#16, []) ∧
    decode [0x06#8, 0x42#8] = .ok (.ld_B_d8 0x42#8, []) ∧
    decode [0xE0#8, 0x80#8] = .ok (.ldh_ata8_A 0x80#8, []) ∧
    decode [0xEA#8, 0x00#8, 0xD0#8] = .ok (.ld_ata16_A 0xD000#16, []) ∧
    decode [0xFE#8, 0x90#8] = .ok (.cp_A_d8 0x90#8, []) ∧
    decode [0x20#8, 0xFE#8] = .ok (.jr_NZ_e8 0xFE#8, []) ∧
    decode [0xC4#8, 0x00#8, 0x20#8] = .ok (.call_NZ_a16 0x2000#16, []) ∧
    decode [0x10#8, 0x5A#8, 0x00#8] = .ok (.stop 0x5A#8, [0x00#8]) := ⟨rfl, rfl, rfl, rfl, rfl, rfl, rfl, rfl⟩

/-- R90: `11 001 110` is `SET 1,(HL)`, `01 111 110` is `BIT 7,(HL)`, `00 110 111` is `SWAP A`. -/
theorem test_decode_extended_fields :
    decode [0xCB#8, 0b11#2 ++ 0b001#3 ++ 0b110#3] = .ok (.set_1_atHL, []) ∧
    decode [0xCB#8, 0b01#2 ++ 0b111#3 ++ 0b110#3] = .ok (.bit_7_atHL, []) ∧
    decode [0xCB#8, 0b00#2 ++ 0b110#3 ++ 0b111#3] = .ok (.swap_A, []) := ⟨rfl, rfl, rfl⟩

theorem test_decode_short_input :
    decode [] = .error .noBytes ∧ decode [0xCB#8] = .error (.truncated 0xCB#8) ∧
    decode [0xC3#8, 0x50#8] = .error (.truncated 0xC3#8) := ⟨rfl, rfl, rfl⟩

/-! Boundary, host operations, memory. -/

/-- 95_test_vectors.md S6: delivery from PC = 0x1234, SP = 0xFFFE. -/
theorem test_S6_delivery :
    let s : State := { State.reset with pc := 0x1234#16, ime := true, pending := some 0x0040#16 }
    step s = .next (State.writeByte 0xFFFD#16 0x12#8 (State.writeByte 0xFFFC#16 0x34#8
      { s with sp := 0xFFFC#16, pc := 0x0040#16, ime := false, pending := none })) := rfl

/-- S5: a core halted with IME = 0 spends one cycle and stays. -/
theorem test_S5_halted_step :
    let s : State := { State.reset with halted := true, pending := some 0x0040#16 }
    step s = .next { s with cycles := 1 } := rfl

/-- D1: the bound, and the last step before it. -/
theorem test_cycle_bound :
    let s : State := { State.reset with halted := true, cycles := 2 ^ 64 - 6 }
    step s = .refused .cycleCounterFull ∧
    step { s with cycles := 2 ^ 64 - 7 } = .next s := ⟨rfl, rfl⟩

/-- R305, R306: the slot takes one vector. -/
theorem test_request :
    requestInterrupt 0x0048#16 State.reset = .next { State.reset with pending := some 0x0048#16 } ∧
    requestInterrupt 0x0050#16 { State.reset with pending := some 0x0048#16 } = .refused .pendingSlotFull := ⟨rfl, rfl⟩

/-- 47_misc_control.md R286 and 60_exceptions.md R301: what the host sees of a fault. -/
theorem test_fault_reply :
    stepReply (start [0xD3#8] State.reset) = .err (.unknownOpcode 0xD3#8 0x0100#16 0) ∧
    stateAfterStep (start [0xD3#8] State.reset) = start [0xD3#8] State.reset := ⟨rfl, rfl⟩

/-- An instruction that wraps past 0xFFFF is fetched around the wrap (R53). -/
theorem test_fetch_wraps :
    fetchInstr (start [0x01#8, 0x34#8, 0x12#8] { State.reset with pc := 0xFFFE#16 }) = .ld_BC_d16 0x1234#16 := rfl

/-- 20_memory.md R56: the transactions of `PUSH BC` in order. -/
theorem test_accesses_of_push :
    stepAccesses (start [0xC5#8] { State.reset with b := 0x12#8, c := 0x34#8, sp := 0xD000#16 }) =
      [.read 0x0100#16, .write 0xCFFE#16 0x34#8, .write 0xCFFF#16 0x12#8] := rfl

theorem test_withFetchWord_runs :
    step (State.reset.withFetchWord 8 0x3C) =
      .next { State.reset.withFetchWord 8 0x3C with a := 0x02#8, f := 0x10#8, pc := 0x0101#16, cycles := 1 } := rfl

theorem test_memory_canonical :
    Memory.write (Memory.write [] 5 1#8) 3 2#8 = [(3, 2#8), (5, 1#8)] ∧
    Memory.write [(3, 2#8), (5, 1#8)] 3 0#8 = [(5, 1#8)] ∧
    Memory.wf [(3, 2#8), (5, 1#8)] = true ∧ Memory.wf [(5, 1#8), (3, 2#8)] = false ∧
    Memory.wf [(3, 0#8)] = false ∧ Memory.wf State.reset.mem = true := by decide

/-- 20_memory.md R58 and U8 of 93_implementation_defined.md: a store to ROM completes and changes nothing behind the
interface; the step's only effects are PC and the cost. -/
theorem test_store_to_rom :
    let s := { start [0x77#8] { State.reset with pc := 0xC000#16 } with map := platform.map }
    step s = .next { s with pc := 0xC001#16, cycles := 2 } := rfl

/-- With PC in a device window, the placed instruction is the one that runs (log 18). -/
theorem test_withFetchWord_over_a_device :
    let s := ({ platform with pc := 0xFF00#16 } : State).withFetchWord 8 0x3C
    ∃ t, step s = .next t ∧ t.a = 0x02#8 ∧ t.bus = [] := ⟨_, rfl, rfl, rfl⟩

/-- R58: `INC (HL)` on a device register reads once and writes once, in that order. -/
theorem test_device_sees_read_then_write :
    let s := { start [0x34#8] { State.reset with pc := 0xC000#16, h := 0xFF#8, l := 0x00#8 } with map := platform.map }
    ∃ t v, step s = .next t ∧ t.bus = [.write 0xFF00#16 v, .read 0xFF00#16] ∧ t.mem = s.mem := ⟨_, _, rfl, rfl, rfl⟩

/-! Witnesses: for each statement with hypotheses, terms that meet them, at the boundaries of its clauses. -/

theorem reset_fetches : State.reset.fetches := ⟨by decide, .inl rfl, rfl⟩

theorem witness_DecodeOfEncodeIsTheInstruction :
    (Instr.ld_SP_d16 0xFFFF#16).wellFormed = true ∧ (Instr.jr_e8 0x80#8).wellFormed = true ∧
    Instr.set_7_A.wellFormed = true ∧ Instr.undefined_FD.wellFormed = true := by decide

theorem witness_EncodeOfDecodeIsTheBytes :
    decode [0x31#8, 0xFF#8, 0xFF#8, 0x76#8] = .ok (.ld_SP_d16 0xFFFF#16, [0x76#8]) ∧
    decode [0xFD#8] = .ok (.undefined_FD, []) := ⟨rfl, rfl⟩

theorem witness_DecodeStopsOnlyOnShortInput :
    instrLength 0xCD#8 ≤ [0x00#8, 0x20#8].length + 1 ∧ instrLength 0x00#8 ≤ ([] : List Byte).length + 1 ∧
    [0x00#8].length + 1 < instrLength 0xCD#8 := by decide

theorem witness_ExtendedByteSelectsOperation :
    (0x3F#8).toNat < 0x40 ∧ (0x40 ≤ (0x40#8).toNat ∧ (0x7F#8).toNat < 0x80) ∧
    (0x80 ≤ (0x80#8).toNat ∧ (0xBF#8).toNat < 0xC0) ∧ 0xC0 ≤ (0xC0#8).toNat := by decide

theorem witness_StepRunsTheDecodedInstruction :
    let s := start [0xCD#8, 0x00#8, 0x20#8] State.reset
    s.fetches ∧ decode [s.readByte s.pc, readNext s [.read s.pc] (s.pc + 1#16),
      readNext s [.read s.pc, .read (s.pc + 1#16)] (s.pc + 2#16)] =
      .ok (.call_a16 0x2000#16, []) := ⟨⟨by decide, .inl rfl, rfl⟩, rfl⟩

theorem witness_StepChoosesInOrder :
    Config.cycleLimit ≤ ({ State.reset with cycles := Config.cycleLimit } : State).cycles ∧
    State.reset.cycles < Config.cycleLimit := by decide

theorem witness_DeliveryEntersTheHandler :
    let s : State := { State.reset with ime := true, pending := some 0x0040#16, cycles := Config.cycleLimit - 1 }
    s.cycles < Config.cycleLimit ∧ s.pending = some 0x0040#16 ∧ s.ime = true := by decide

theorem witness_HaltedStepOnlyCounts :
    let s : State := { State.reset with halted := true }
    let u : State := { s with pending := some 0x0040#16 }
    s.cycles < Config.cycleLimit ∧ s.halted = true ∧ s.pending = none ∧ u.halted = true ∧ u.ime = false := by decide

theorem witness_UndefinedByteFaults :
    Instr.undefined_D3.form = .undefinedByte 0xD3#8 ∧ Instr.undefined_FD.form = .undefinedByte 0xFD#8 ∧
    (start [0xD3#8] State.reset).fetches ∧
    (start [0xD3#8] State.reset).readByte (start [0xD3#8] State.reset).pc ∈ undefinedBytes :=
  ⟨rfl, rfl, ⟨by decide, .inl rfl, rfl⟩, by decide⟩

theorem witness_OnlyUndefinedBytesFault :
    step (start [0xFD#8] State.reset) = .fault (.unknownOpcode 0xFD#8 0x0100#16 0) ∧
    Instr.nop.isUndefined = false ∧ (Instr.prefix_CB 0xFF#8).isUndefined = false := ⟨rfl, rfl, rfl⟩

theorem witness_RequestFillsTheEmptySlot :
    State.reset.pending = none ∧
    ({ State.reset with pending := some 0x0040#16 } : State).pending = some 0x0040#16 := ⟨rfl, rfl⟩

theorem witness_RequestDeliveredRightAfterEi :
    let s := start [0xFB#8] { State.reset with pending := some 0x0040#16 }
    s.fetches ∧ s.cycles + 1 < Config.cycleLimit ∧ s.readByte s.pc = 0xFB#8 ∧ s.pending = some 0x0040#16 :=
  ⟨⟨by decide, .inr rfl, rfl⟩, by decide, rfl, rfl⟩

theorem witness_RetiWithPendingReentersTheHandler :
    let s := start [0xD9#8] { State.reset with pending := some 0x0040#16 }
    s.fetches ∧ s.cycles + 4 < Config.cycleLimit ∧ s.readByte s.pc = 0xD9#8 ∧ s.pending = some 0x0040#16 ∧
    s.kind s.sp = .ram ∧ s.kind (s.sp + 1#16) = .ram :=
  ⟨⟨by decide, .inr rfl, rfl⟩, by decide, rfl, rfl, rfl, rfl⟩

theorem witness_DeliveryThenRetiComesBack :
    let s := placed 0x0040#16 [0xD9#8] { State.reset with ime := true, pending := some 0x0040#16 }
    s.cycles + 4 < Config.cycleLimit ∧ s.pending = some 0x0040#16 ∧ s.ime = true ∧ s.readByte 0x0040#16 = 0xD9#8 ∧
    0x0040#16 ≠ s.sp - 2#16 ∧ 0x0040#16 ≠ s.sp - 1#16 ∧ s.kind (s.sp - 2#16) = .ram ∧ s.kind (s.sp - 1#16) = .ram :=
  ⟨by decide, rfl, rfl, rfl, by decide, by decide, rfl, rfl⟩

theorem witness_HaltedWithInterruptsDisabledIsForEver :
    let s : State := { State.reset with halted := true, pending := some 0x0040#16 }
    s.hung = true ∧ s.cycles + 3 ≤ Config.cycleLimit := by decide

theorem witness_InvariantHoldsAtReset : Memory.wf [(0, 1#8), (65535, 0xFF#8)] = true := by decide

theorem witness_StepKeepsTheInvariant :
    let s := start [0x3C#8] State.reset
    s.inv = true ∧ step s = .next { s with a := 0x02#8, f := 0x10#8, pc := 0x0101#16, cycles := 1 } := ⟨rfl, rfl⟩

theorem witness_LowNibbleOfFStaysZero :
    let s := start [0xF1#8] State.reset
    s.f &&& 0x0F#8 = 0#8 ∧ (∃ t, step s = .next t) ∧ (∃ t, exec .pop_AF s = .next t) ∧
    (∃ t, exec .push_AF s = .next t) ∧ s.kind (s.sp - 2#16) = .ram := ⟨rfl, ⟨_, rfl⟩, ⟨_, rfl⟩, ⟨_, rfl⟩, rfl⟩

theorem witness_WordsAreLittleEndian :
    platform.kind 0xFFFF#16 = .ram ∧ platform.kind (0xFFFF#16 + 1#16) = .rom ∧ platform.kind 0xC000#16 = .ram ∧
    platform.kind (0xC000#16 + 1#16) = .ram ∧ (0xBFFF#16 : Word) ≠ 0xC000#16 ∧
    (0xBFFF#16 : Word) ≠ 0xC000#16 + 1#16 := by decide

/-- Each kind of address, at the edges of its window; a map with no window and one with a first window. -/
theorem witness_InterfaceFollowsTheMap :
    State.reset.map = [] ∧ platform.map = ⟨0x0000#16, 0x8000, .rom⟩ :: [⟨0xFF00#16, 0x80, .device⟩] ∧
    platform.kind 0x0000#16 = .rom ∧ platform.kind 0x7FFF#16 = .rom ∧ platform.kind 0x8000#16 = .ram ∧
    platform.kind 0xFEFF#16 = .ram ∧ platform.kind 0xFF00#16 = .device ∧ platform.kind 0xFF7F#16 = .device ∧
    platform.kind 0xFF80#16 = .ram := by decide

/-- Taken and not taken, an instruction, a delivery, a halted step. -/
theorem witness_EveryStepChargesItsCost :
    (∃ t, exec (.jr_Z_e8 0x10#8) State.reset = .next t) ∧ taken (.jr_Z_e8 0x10#8) State.reset = true ∧
    (∃ t, exec (.jr_NZ_e8 0x10#8) State.reset = .next t) ∧ taken (.jr_NZ_e8 0x10#8) State.reset = false ∧
    (let s : State := { State.reset with ime := true, pending := some 0x0040#16 }
     boundary s = .deliver 0x0040#16 ∧ ∃ t, step s = .next t) ∧
    (let s : State := { State.reset with halted := true }
     boundary s = .halted ∧ ∃ t, step s = .next t) ∧
    ({ State.reset with cycles := 2 ^ 64 - 1 } : State).cycles < 2 ^ 64 :=
  ⟨⟨_, rfl⟩, rfl, ⟨_, rfl⟩, rfl, ⟨rfl, ⟨_, rfl⟩⟩, ⟨rfl, ⟨_, rfl⟩⟩, by decide⟩

theorem witness_ProgramCounterIsAssignedOnce :
    (∃ t, exec .nop State.reset = .next t) ∧ (∃ t, exec .ret State.reset = .next t) ∧
    ∃ t, exec (.jr_e8 0x80#8) State.reset = .next t := ⟨⟨_, rfl⟩, ⟨_, rfl⟩, ⟨_, rfl⟩⟩

theorem witness_OnlyNamedInstructionsWriteIme :
    (∃ t, exec .ei State.reset = .next t) ∧ (∃ t, exec .di State.reset = .next t) ∧
    (∃ t, step { State.reset with ime := true, pending := some 0x0040#16 } = .next t) ∧
    boundary { State.reset with ime := true, pending := some 0x0040#16 } = .deliver 0x0040#16 ∧
    boundary { State.reset with halted := true } = .halted ∧ ∃ t, step { State.reset with halted := true } = .next t :=
  ⟨⟨_, rfl⟩, ⟨_, rfl⟩, ⟨_, rfl⟩, rfl, rfl, ⟨_, rfl⟩⟩

theorem witness_OnlyHaltSetsHalted :
    (∃ t, exec .halt State.reset = .next t) ∧ (∃ t, exec .nop { State.reset with halted := true } = .next t) ∧
    (let s : State := { State.reset with halted := true, ime := true, pending := some 0x0040#16 }
     boundary s = .deliver 0x0040#16 ∧ ∃ t, step s = .next t) ∧
    (let s : State := { State.reset with halted := true }
     boundary s = .halted ∧ ∃ t, step s = .next t) :=
  ⟨⟨_, rfl⟩, ⟨_, rfl⟩, ⟨rfl, ⟨_, rfl⟩⟩, ⟨rfl, ⟨_, rfl⟩⟩⟩

theorem witness_NoInstructionReadsControlState :
    (∃ t, exec .rst_38h State.reset = .next t) ∧ ∃ t, exec .ei State.reset = .next t := ⟨⟨_, rfl⟩, ⟨_, rfl⟩⟩

theorem witness_MemoryChangesAreTheListedWrites :
    (∃ t, exec (.ld_ata16_SP 0xFFFF#16) State.reset = .next t) ∧
    (∃ t, step (start [0x08#8, 0xFF#8, 0xFF#8] State.reset) = .next t) ∧ platform.kind 0x7FFF#16 ≠ .ram :=
  ⟨⟨_, rfl⟩, ⟨_, rfl⟩, by decide⟩

/-- Two memories that differ, but not at the byte read. -/
theorem witness_ResultsDependOnTheListedReadsOnly :
    let s : State := { State.reset with h := 0xC0#8, l := 0x00#8, mem := [(0xC000, 0x42#8)] }
    (∀ x ∈ dataReads s Instr.inc_atHL.form,
      ({ s with mem := [(0xC000, 0x42#8), (0xD000, 0x01#8)] } : State).readByte x = s.readByte x) ∧
    ∃ t, exec .inc_atHL s = .next t := ⟨List.forall_mem_singleton.2 rfl, ⟨_, rfl⟩⟩

theorem witness_RegisterLoadsCopy :
    Instr.ld_B_B.form = .ldRegReg .b .b ∧ Instr.ld_H_L.form = .ldRegReg .h .l ∧
    (Instr.ld_A_d8 0xFF#8).form = .ldRegImm .a 0xFF#8 ∧ Instr.ld_H_atHL.form = .ldRegAtHL .h := ⟨rfl, rfl, rfl, rfl⟩

theorem witness_StoresThroughHL :
    Instr.ld_atHL_L.form = .ldAtHLReg .l ∧ (Instr.ld_atHL_d8 0xAB#8).form = .ldAtHLImm 0xAB#8 := ⟨rfl, rfl⟩

theorem witness_AccumulatorLoadsFromMemory :
    Instr.ld_A_atBC.form = .ldAAtBC ∧ Instr.ld_A_atDE.form = .ldAAtDE ∧
    (Instr.ld_A_ata16 0xFFFF#16).form = .ldAAtAbs 0xFFFF#16 ∧ (Instr.ldh_A_ata8 0xFF#8).form = .ldhAAt 0xFF#8 ∧
    Instr.ld_A_atC.form = .ldAAtC := ⟨rfl, rfl, rfl, rfl, rfl⟩

theorem witness_AccumulatorStoresToMemory :
    Instr.ld_atBC_A.form = .ldAtBCA ∧ Instr.ld_atDE_A.form = .ldAtDEA ∧
    (Instr.ld_ata16_A 0xFFFF#16).form = .ldAtAbsA 0xFFFF#16 ∧ (Instr.ldh_ata8_A 0xFF#8).form = .ldhAtA 0xFF#8 ∧
    Instr.ld_atC_A.form = .ldAtCA := ⟨rfl, rfl, rfl, rfl, rfl⟩

theorem witness_PostMovingLoads :
    Instr.ld_atHLinc_A.form = .ldAtHLIncA ∧ Instr.ld_atHLdec_A.form = .ldAtHLDecA ∧
    Instr.ld_A_atHLinc.form = .ldAAtHLInc ∧ Instr.ld_A_atHLdec.form = .ldAAtHLDec := ⟨rfl, rfl, rfl, rfl⟩

theorem witness_SixteenBitLoads :
    (Instr.ld_SP_d16 0xFFFF#16).form = .ldPairImm .sp 0xFFFF#16 ∧
    (Instr.ld_ata16_SP 0xFFFF#16).form = .ldAtAbsSP 0xFFFF#16 ∧ Instr.ld_SP_HL.form = .ldSPHL := ⟨rfl, rfl, rfl⟩

theorem witness_StackPointerPlusDisplacement :
    (Instr.ld_HL_SP_e8 0x80#8).form = .ldHLSPPlus 0x80#8 ∧ (Instr.add_SP_e8 0x7F#8).form = .addSP 0x7F#8 := ⟨rfl, rfl⟩

theorem witness_PushStoresThePair :
    Instr.push_BC.form = .push .bc ∧ Instr.push_DE.form = .push .de ∧ Instr.push_HL.form = .push .hl ∧
    Instr.push_AF.form = .push .af := ⟨rfl, rfl, rfl, rfl⟩

theorem witness_PopLoadsThePair :
    Instr.pop_BC.form = .pop .bc ∧ Instr.pop_DE.form = .pop .de ∧ Instr.pop_HL.form = .pop .hl ∧
    Instr.pop_AF.form = .pop .af := ⟨rfl, rfl, rfl, rfl⟩

theorem witness_AddAndAdc :
    Instr.add_A_B.form = .alu .add (.loc (.reg .b)) ∧ (Instr.adc_A_d8 0xFF#8).form = .alu .adc (.imm 0xFF#8) ∧
    Instr.adc_A_atHL.form = .alu .adc (.loc .atHL) := ⟨rfl, rfl, rfl⟩

theorem witness_SubSbcAndCp :
    Instr.sub_A_atHL.form = .alu .sub (.loc .atHL) ∧ Instr.sbc_A_A.form = .alu .sbc (.loc (.reg .a)) ∧
    (Instr.cp_A_d8 0x3C#8).form = .alu .cp (.imm 0x3C#8) := ⟨rfl, rfl, rfl⟩

theorem witness_AndXorAndOr :
    Instr.and_A_L.form = .alu .and (.loc (.reg .l)) ∧ (Instr.xor_A_d8 0x0F#8).form = .alu .xor (.imm 0x0F#8) ∧
    Instr.or_A_atHL.form = .alu .or (.loc .atHL) := ⟨rfl, rfl, rfl⟩

theorem witness_IncrementAndDecrement :
    Instr.inc_A.form = .incLoc (.reg .a) ∧ Instr.inc_atHL.form = .incLoc .atHL ∧
    Instr.dec_L.form = .decLoc (.reg .l) ∧ Instr.dec_atHL.form = .decLoc .atHL := ⟨rfl, rfl, rfl, rfl⟩

/-- `low` and `high` of `DAA` each hold and fail, at 9 and 10 and at 0x99 and 0x9A. -/
theorem witness_DecimalAdjust :
    Instr.daa.form = .daa ∧ (0x9A#8).toNat % 16 > 9 ∧ ¬(0x99#8).toNat % 16 > 9 ∧ (0x9A#8).toNat > 0x99 ∧
    ¬(0x99#8).toNat > 0x99 := by decide

theorem witness_AddThenDaaIsDecimalAddition :
    let s : State := { State.reset with a := 0x99#8, b := 0x99#8 }
    s.a = bcd 9 9 ∧ s.b = bcd 9 9 ∧ (∃ t, exec .add_A_B s = .next t) ∧ ∃ t, exec .adc_A_B s = .next t :=
  ⟨rfl, rfl, ⟨_, rfl⟩, ⟨_, rfl⟩⟩

theorem witness_ComplementAndCarryFlag :
    Instr.cpl.form = .cpl ∧ Instr.scf.form = .scf ∧ Instr.ccf.form = .ccf := ⟨rfl, rfl, rfl⟩

theorem witness_AddToHL : Instr.add_HL_HL.form = .addHL .hl ∧ Instr.add_HL_SP.form = .addHL .sp := ⟨rfl, rfl⟩

theorem witness_IncrementAndDecrementPair :
    Instr.inc_SP.form = .incPair .sp ∧ Instr.dec_DE.form = .decPair .de := ⟨rfl, rfl⟩

theorem witness_AccumulatorRotates :
    Instr.rlca.form = .rlca ∧ Instr.rrca.form = .rrca ∧ Instr.rla.form = .rla ∧ Instr.rra.form = .rra :=
  ⟨rfl, rfl, rfl, rfl⟩

theorem witness_ExtendedRotates :
    Instr.rlc_B.form = .rot .rlc (.reg .b) ∧ Instr.rrc_atHL.form = .rot .rrc .atHL ∧
    Instr.rl_A.form = .rot .rl (.reg .a) ∧ Instr.rr_atHL.form = .rot .rr .atHL := ⟨rfl, rfl, rfl, rfl⟩

theorem witness_ExtendedShifts :
    Instr.sla_H.form = .rot .sla (.reg .h) ∧ Instr.sra_atHL.form = .rot .sra .atHL ∧
    Instr.swap_A.form = .rot .swap (.reg .a) ∧ Instr.srl_atHL.form = .rot .srl .atHL := ⟨rfl, rfl, rfl, rfl⟩

theorem witness_BitTestResetAndSet :
    Instr.bit_0_atHL.form = .bit 0#3 .atHL ∧ Instr.bit_7_A.form = .bit 7#3 (.reg .a) ∧
    Instr.res_0_B.form = .res 0#3 (.reg .b) ∧ Instr.set_7_atHL.form = .set 7#3 .atHL := ⟨rfl, rfl, rfl, rfl⟩

theorem witness_RotatesUndoEachOther :
    (∃ t u, exec .rr_atHL State.reset = .next t ∧ exec .rl_atHL t = .next u) ∧
    (∃ t u, exec .rlc_B State.reset = .next t ∧ exec .rrc_B t = .next u) ∧
    Instr.rr_atHL.form = .rot .rr .atHL ∧ Instr.rl_atHL.form = .rot .rl .atHL ∧
    Instr.rlc_B.form = .rot .rlc (.reg .b) ∧ Instr.rrc_B.form = .rot .rrc (.reg .b) ∧
    State.reset.kind State.reset.hl = .ram :=
  ⟨⟨_, _, rfl, rfl⟩, ⟨_, _, rfl, rfl⟩, rfl, rfl, rfl, rfl, rfl⟩

/-- At reset F = 0xB0: Z and C hold, NZ and NC do not, so each condition kind is met and not met. -/
theorem witness_conditions :
    condHolds .z State.reset ∧ ¬condHolds .nz State.reset ∧ condHolds .c State.reset ∧ ¬condHolds .nc State.reset :=
  ⟨rfl, by simp [condHolds, State.fZ, State.reset], rfl, by simp [condHolds, State.fC, State.reset]⟩

theorem witness_Jumps :
    (Instr.jp_a16 0xFFFF#16).form = .jp 0xFFFF#16 ∧ Instr.jp_HL.form = .jpHL ∧
    (Instr.jp_Z_a16 0x0200#16).form = .jpIf .z 0x0200#16 ∧ (Instr.jp_NZ_a16 0x0200#16).form = .jpIf .nz 0x0200#16 ∧
    (Instr.jr_e8 0x80#8).form = .jr 0x80#8 ∧ (Instr.jr_C_e8 0x7F#8).form = .jrIf .c 0x7F#8 ∧
    (Instr.jr_NC_e8 0x80#8).form = .jrIf .nc 0x80#8 := ⟨rfl, rfl, rfl, rfl, rfl, rfl, rfl⟩

theorem witness_CallsAndRestarts :
    (Instr.call_a16 0x2000#16).form = .call 0x2000#16 ∧ (Instr.call_Z_a16 0x2000#16).form = .callIf .z 0x2000#16 ∧
    (Instr.call_NZ_a16 0x2000#16).form = .callIf .nz 0x2000#16 ∧ Instr.rst_00h.form = .rst 0#3 ∧
    Instr.rst_38h.form = .rst 7#3 := ⟨rfl, rfl, rfl, rfl, rfl⟩

theorem witness_Returns :
    Instr.ret.form = .ret ∧ Instr.ret_C.form = .retIf .c ∧ Instr.ret_NC.form = .retIf .nc ∧ Instr.reti.form = .reti ∧
    (let s : State := { State.reset with pending := some 0x0040#16 }
     ∃ t, exec .reti s = .next t ∧ s.pending = some 0x0040#16 ∧ t.cycles < Config.cycleLimit) :=
  ⟨rfl, rfl, rfl, rfl, ⟨_, rfl, rfl, by decide⟩⟩

theorem witness_NopAndDi :
    Instr.nop.form = .nop ∧ Instr.di.form = .di ∧
    ∃ t, exec .di { State.reset with ime := true, pending := some 0x0040#16 } = .next t := ⟨rfl, rfl, ⟨_, rfl⟩⟩

theorem witness_HaltStopAndEi :
    Instr.halt.form = .halt ∧ (Instr.stop 0xFF#8).form = .stop 0xFF#8 ∧ Instr.ei.form = .ei := ⟨rfl, rfl, rfl⟩

end Sys2Proof.Tests
end

section
/-! PROOF. Registers, pairs and flags (10_state.md sections 1 and 3). The flags read off a byte are its high nibble, as
a number; so they compose F, and `POP AF` loads them from the low byte of the stack word. -/

namespace Sys2Proof.Claims

open Sys2Proof.Machine

/-- Bits 7 to 4 of a byte, weighted by their places, are the byte with its low nibble cleared. -/
theorem flagBits_eq_highNibble (v : Byte) :
    128 * (v.getLsbD 7).toNat + 64 * (v.getLsbD 6).toNat + 32 * (v.getLsbD 5).toNat + 16 * (v.getLsbD 4).toNat =
      v.toNat / 16 * 16 := by
  have hv := v.isLt
  simp only [BitVec.getLsbD, Nat.toNat_testBit]
  omega

/-- The four flags are the high nibble of F (R26). -/
theorem flags_eq_highNibble (s : State) :
    128 * s.fZ.toNat + 64 * s.fN.toNat + 32 * s.fH.toNat + 16 * s.fC.toNat = s.f.toNat / 16 * 16 :=
  flagBits_eq_highNibble s.f

/-- Masking the hard-wired bits loses no flag: AF written loads the flags from the word's low byte (R7, R176). -/
theorem flags_setStackPair_af (s : State) (v : Word) :
    128 * (s.setStackPair .af v).fZ.toNat + 64 * (s.setStackPair .af v).fN.toNat +
        32 * (s.setStackPair .af v).fH.toNat + 16 * (s.setStackPair .af v).fC.toNat =
      (loByte v).toNat / 16 * 16 := by
  rw [← flagBits_eq_highNibble (loByte v)]
  simp [State.fZ, State.fN, State.fH, State.fC]

/-- `flagByte` puts Z, N, H, C at bits 7, 6, 5, 4 (R128). -/
theorem toNat_flagByte :
    ∀ z n h c : Bool, (flagByte z n h c).toNat = 128 * z.toNat + 64 * n.toNat + 32 * h.toNat + 16 * c.toNat := by
  decide

/-- `POP AF` completes, and the flags it leaves are the high nibble of the byte at SP (R176). -/
theorem exec_pop_AF_flags (s : State) :
    ∃ t, exec .pop_AF s = .next t ∧
      128 * t.fZ.toNat + 64 * t.fN.toNat + 32 * t.fH.toNat + 16 * t.fC.toNat = (s.readByte s.sp).toNat / 16 * 16 := by
  refine ⟨_, exec_eq_execForm _ s, ?_⟩
  rw [← State.loByte_readWord]
  exact flags_setStackPair_af s.dropWord (s.readWord s.sp)

/-- Settles O23: a pair is `joinBytes` of its halves whatever was written last, and a flag is a digit of F. -/
theorem pairsAreLiveCompositions : Obligations.PairsAreLiveCompositions := by
  intro s v b
  refine ⟨?regRead, ?regWritten, ?operands, ?codes, ?pairIsHalves, ?pairRead, ?halfWritten, ?pairWritten, ?flags⟩
  case regRead => exact ⟨rfl, rfl, rfl, rfl, rfl, rfl, rfl⟩
  case regWritten => exact ⟨rfl, rfl, rfl, rfl, rfl, rfl, rfl⟩
  case operands => exact ⟨fun _ => rfl, rfl, fun _ => rfl, rfl, fun cc => (condHolds_iff cc s).symm⟩
  case codes => exact ⟨rfl, fun _ => rfl, rfl, rfl, rfl⟩
  case pairIsHalves =>
    exact ⟨toNat_joinBytes .., toNat_joinBytes .., toNat_joinBytes .., toNat_joinBytes ..⟩
  case pairRead => exact ⟨rfl, rfl, rfl, rfl, rfl, rfl, rfl⟩
  case halfWritten =>
    exact ⟨toNat_joinBytes .., toNat_joinBytes .., toNat_joinBytes .., toNat_joinBytes .., toNat_joinBytes ..,
      toNat_joinBytes .., toNat_joinBytes ..⟩
  case pairWritten =>
    rw [high_eq_hiByte, low_eq_loByte]
    exact ⟨rfl, rfl, rfl, rfl, rfl, rfl, rfl, rfl⟩
  case flags =>
    have hf := flags_eq_highNibble s
    exact ⟨Nat.testBit_eq_decide_div_mod_eq, Nat.testBit_eq_decide_div_mod_eq, Nat.testBit_eq_decide_div_mod_eq,
      Nat.testBit_eq_decide_div_mod_eq, by omega, toNat_flagByte, exec_pop_AF_flags s⟩

end Sys2Proof.Claims
end

section
/-! PROOF. How one instruction assigns F and PC (10_state.md R24, R27), form by form; then the low nibble of F over
every step and the one assignment to PC. The bare byte 0xCB runs the extended form of the byte after it, so its case is
read off that form. -/

namespace Sys2Proof.Machine

@[simp] theorem State.writeLoc_f (s : State) (l : Loc) (v : Byte) : (s.writeLoc l v).f = s.f := by
  cases l <;> simp [State.writeLoc]

@[simp] theorem State.writeLoc_pc (s : State) (l : Loc) (v : Byte) : (s.writeLoc l v).pc = s.pc := by
  cases l <;> simp [State.writeLoc]

@[simp] theorem returnFromInterrupt_f (cost : Nat) (s : State) : (returnFromInterrupt cost s).f = s.f := by
  rw [returnFromInterrupt_eq, State.afterReadWord_f]

@[simp] theorem returnFromInterrupt_pc (cost : Nat) (s : State) :
    (returnFromInterrupt cost s).pc = s.readWord s.sp := by
  rw [returnFromInterrupt_eq]

/-- The one form that is no instruction by itself is the bare 0xCB (R285). -/
theorem prefixed_or_wellFormed (f : Form) : (∃ ext, f = .prefixed ext) ∨ f.wellFormed = true := by
  cases f with
  | prefixed ext => exact .inl ⟨ext, rfl⟩
  | _ => exact .inr rfl

theorem extendedForm_wellFormed (ext : Byte) : (extendedForm ext).wellFormed = true := by
  rcases extendedForm_cases ext with ⟨_, _, e⟩ | ⟨_, _, e⟩ | ⟨_, _, e⟩ | ⟨_, _, e⟩ <;> rw [e] <;> rfl

/-- Every extended form is two bytes, 0xCB among them (R90). -/
theorem length_encodeForm_extendedForm (ext : Byte) : (encodeForm (extendedForm ext)).length = 2 := by
  rcases extendedForm_cases ext with ⟨_, _, e⟩ | ⟨_, _, e⟩ | ⟨_, _, e⟩ | ⟨_, _, e⟩ <;> rw [e] <;> rfl

/-- An accumulator operation is the comparison or it writes A (R190). -/
theorem execForm_alu (op : AluOp) (src : Src) (s : State) :
    execForm (.alu op src) s = compareA src s ∨ execForm (.alu op src) s = accumulate op src s := by
  cases op with
  | cp => exact .inl rfl
  | add | adc | sub | sbc | and | xor | or => exact .inr rfl

/-- An instruction that is its own reading keeps F or writes it with its hard-wired bits zero (R27). -/
theorem execForm_f_of_wellFormed {f : Form} {s t : State} (hf : f.wellFormed = true) (h : execForm f s = .next t) :
    t.f = s.f ∨ t.f &&& 0x0F#8 = 0#8 := by
  cases f with
  | prefixed ext => cases hf
  | undefinedByte opcode => cases h
  -- no flag effect
  | ldRegReg | ldRegImm | ldRegAtHL | ldAtHLReg | ldAtHLImm | ldAAtBC | ldAAtDE | ldAtBCA | ldAtDEA
  | ldAAtAbs | ldAtAbsA | ldhAAt | ldhAtA | ldAAtC | ldAtCA | ldAtHLIncA | ldAtHLDecA | ldAAtHLInc | ldAAtHLDec
  | ldPairImm | ldAtAbsSP | ldSPHL
  | push | incPair | decPair | res | set | jp | jpHL | jr | call | ret | reti | rst | nop | halt | stop | di | ei =>
    cases h
    exact .inl (by simp)
  | jpIf | jrIf | callIf | retIf =>
    simp only [execForm, jumpIf, jumpRelativeIf, callIf, returnIf] at h
    split at h <;> cases h <;> exact .inl (by simp)
  -- F written by `setFlags`
  | ldHLSPPlus | incLoc | decLoc | daa | cpl | scf | ccf | addHL | addSP | rlca | rrca | rla | rra | rot | bit =>
    cases h
    exact .inr (by simp)
  | alu op src =>
    rcases execForm_alu op src s with e | e <;> rw [e] at h <;> cases h <;> exact .inr (by simp)
  -- F written whole, by `POP AF` alone
  | pop q =>
    cases h
    cases q with
    | bc | de | hl => exact .inl (by simp)
    | af => exact .inr (by simp [masked_low])

/-- Every instruction keeps F or writes it with its hard-wired bits zero (R27). -/
theorem exec_f {i : Instr} {s t : State} (h : exec i s = .next t) : t.f = s.f ∨ t.f &&& 0x0F#8 = 0#8 := by
  rw [exec_eq_execForm] at h
  rcases prefixed_or_wellFormed i.form with ⟨ext, hi⟩ | hf
  · rw [hi, execForm, runExtended_eq_execForm] at h
    exact execForm_f_of_wellFormed (extendedForm_wellFormed ext) h
  · exact execForm_f_of_wellFormed hf h

theorem fetched_f (s : State) : (fetched s).f = s.f := by
  rw [Claims.fetched_eq_seenBy]

/-- A step keeps F or leaves its hard-wired bits zero (R27). -/
theorem step_f {s t : State} (h : step s = .next t) : t.f = s.f ∨ t.f &&& 0x0F#8 = 0#8 := by
  rcases step_cases s with ⟨_, e⟩ | ⟨_, v, _, _, e⟩ | ⟨_, _, _, e⟩ | ⟨_, e⟩
  · cases e.symm.trans h
  · cases e.symm.trans h
    exact .inl (by simp [deliver])
  · cases e.symm.trans h
    exact .inl (by simp [haltedStep])
  · simpa only [fetched_f] using exec_f (e.symm.trans h)

/-- AF is read with F's hard-wired bits as zero (R20, R27). -/
theorem loByte_stackPair_af (s : State) : loByte (s.stackPair .af) = s.flagsRead :=
  loByte_joinBytes _ _

/-- The byte that `PUSH AF` leaves at the new SP, where that is RAM, is F masked (R174). -/
theorem readByte_sp_of_push_AF {s t : State} (h : exec .push_AF s = .next t) (ram : s.kind (s.sp - 2#16) = .ram) :
    t.readByte t.sp = s.flagsRead := by
  rw [exec_eq_execForm] at h
  cases h
  rw [State.advance_readByte, State.advance_sp, State.push_sp, State.readByte_of_ram (by simpa using ram),
    State.stored_push, if_neg (fun k => (word_succ_ne _).symm k.2), if_pos ⟨ram, rfl⟩, loByte_stackPair_af]

/-- A signed displacement added in 16 bits is the sum as integers, wrapped (R87, R264). -/
theorem add_sext16 (v : Word) (e8 : Byte) : v + sext16 e8 = BitVec.ofInt 16 (v.toNat + e8.toInt) := by
  rw [BitVec.ofInt_add, BitVec.ofInt_natCast, BitVec.ofNat_toNat, BitVec.setWidth_eq]
  rfl

/-- The restart target is eight times the field (R87). -/
theorem restartTarget_eq_ofNat (t : BitVec 3) : restartTarget t = BitVec.ofNat 16 (8 * t.toNat) := by
  revert t
  decide

end Sys2Proof.Machine

namespace Sys2Proof.Claims

open Sys2Proof.Machine

/-- An extended form is sequential. -/
theorem pcAfter_extendedForm (ext : Byte) (s : State) (next : Word) : pcAfter (extendedForm ext) s next = next := by
  rcases extendedForm_cases ext with ⟨_, _, e⟩ | ⟨_, _, e⟩ | ⟨_, _, e⟩ | ⟨_, _, e⟩ <;> rw [e] <;> rfl

/-- Where an instruction that is its own reading takes PC (R24). -/
theorem execForm_pc_of_wellFormed {f : Form} {s t : State} (hf : f.wellFormed = true) (h : execForm f s = .next t) :
    t.pc = pcAfter f s (s.next (encodeForm f).length) := by
  cases f with
  | prefixed ext => cases hf
  | undefinedByte opcode => cases h
  -- sequential: PC + length
  | ldRegReg | ldRegImm | ldRegAtHL | ldAtHLReg | ldAtHLImm | ldAAtBC | ldAAtDE | ldAtBCA | ldAtDEA
  | ldAAtAbs | ldAtAbsA | ldhAAt | ldhAtA | ldAAtC | ldAtCA | ldAtHLIncA | ldAtHLDecA | ldAAtHLInc | ldAAtHLDec
  | ldPairImm | ldAtAbsSP | ldSPHL
  | ldHLSPPlus | push | pop | incLoc | decLoc | daa | cpl | scf | ccf | addHL | incPair | decPair | addSP | rlca | rrca
  | rla | rra | rot | bit | res | set | nop | halt | stop | di | ei =>
    cases h
    simp [State.next, pcAfter, encodeForm, imm16Bytes]
  | alu op src =>
    rcases execForm_alu op src s with e | e <;> rw [e] at h <;> cases h <;>
      cases src <;> simp [State.next, pcAfter, encodeForm, sourceLength]
  -- a transfer: its target
  | jp a16 | jpHL | call a16 =>
    cases h
    simp [pcAfter]
  | jr e8 =>
    cases h
    exact add_sext16 (s.next 2) e8
  | ret | reti =>
    cases h
    simp [pcAfter, wordAt_eq_readWord]
  | rst n =>
    cases h
    exact restartTarget_eq_ofNat n
  -- a conditional transfer: its target if the condition holds, else PC + length
  | jpIf | jrIf | callIf | retIf =>
    simp only [execForm, jumpIf, jumpRelativeIf, callIf, returnIf] at h
    split at h
    next taken =>
      cases h
      simp [taken, pcAfter, encodeForm, add_sext16, wordAt_eq_readWord]
    next notTaken =>
      cases h
      simp [notTaken, pcAfter, encodeForm, imm16Bytes, State.next]

/-- Settles O21: every write of F ends in `flagByte` or in the mask of `POP AF`, and `PUSH AF` reads F masked. -/
theorem lowNibbleOfFStaysZero : Obligations.LowNibbleOfFStaysZero := by
  refine ⟨rfl, ?step, ?popAF, ?pushAF, ?pushedAF⟩
  case step =>
    intro s t hs h
    rcases step_f h with e | e
    · rwa [e]
    · exact e
  case popAF =>
    intro s t h
    rw [exec_eq_execForm] at h
    cases h
    simp
  case pushAF =>
    intro s
    have hw : dataWrites s Instr.push_AF.form = wordWrites (s.sp - 2#16) (s.stackPair .af) := rfl
    rw [hw, wordWrites, loByte_stackPair_af]
    exact ⟨s.flagsRead, List.mem_cons_self, masked_low s.f⟩
  case pushedAF =>
    intro s t h ram
    rw [readByte_sp_of_push_AF h ram]
    exact masked_low s.f

/-- Settles O25, form by form; the bare 0xCB goes where its extended form goes. -/
theorem programCounterIsAssignedOnce : Obligations.ProgramCounterIsAssignedOnce := by
  intro i s t h
  rw [exec_eq_execForm] at h
  rw [encode]
  rcases prefixed_or_wellFormed i.form with ⟨ext, hi⟩ | hf
  · rw [hi, execForm, runExtended_eq_execForm] at h
    have hpc := execForm_pc_of_wellFormed (extendedForm_wellFormed ext) h
    rw [pcAfter_extendedForm, length_encodeForm_extendedForm] at hpc
    rw [hi]
    exact hpc
  · exact execForm_pc_of_wellFormed hf h

end Sys2Proof.Claims
end

section
/-! PROOF. Words in memory (20_memory.md R52, R53). What a read and a write of a word deliver, let devices see and leave
in storage are the laws of `readWord`, `afterReadWord` and `writeWord`; that RAM gives back the word written is here. -/

namespace Sys2Proof.Machine

variable (s : State) {a : Word} (h : s.kind a = .ram) (h' : s.kind (a + 1#16) = .ram) (v : Word)
include h h'

/-- In RAM the low byte of a word is at its address, which the high byte leaves alone at the wrap too (R52, R53). -/
theorem State.readByte_writeWord_self : (s.writeWord a v).readByte a = loByte v := by
  rw [State.readByte_writeWord s h h', if_neg (word_succ_ne a).symm, if_pos rfl]

/-- In RAM the high byte of a word is at the next address (R52, R53). -/
theorem State.readByte_writeWord_succ : (s.writeWord a v).readByte (a + 1#16) = hiByte v := by
  rw [State.readByte_writeWord s h h', if_pos rfl]

/-- A word write to RAM leaves what every other address answers (R53). -/
theorem State.readByte_writeWord_of_ne {y : Word} (hy : y ≠ a) (hy' : y ≠ a + 1#16) :
    (s.writeWord a v).readByte y = s.readByte y := by
  rw [State.readByte_writeWord s h h', if_neg hy', if_neg hy]

/-- RAM gives back the word written: no device sees the read of its low byte (R52, R53). -/
theorem State.readWord_writeWord : (s.writeWord a v).readWord a = v := by
  rw [State.readWord, State.afterRead_of_ram (by simpa using h), State.readByte_writeWord_self s h h',
    State.readByte_writeWord_succ s h h', joinBytes_hi_lo]

end Sys2Proof.Machine

namespace Sys2Proof.Claims

open Sys2Proof.Machine

/-- Settles O22: a word access becomes its two byte accesses, and in RAM each byte written is the byte read. -/
theorem wordsAreLittleEndian : Obligations.WordsAreLittleEndian := by
  intro s x v
  refine ⟨(wordAt_eq_readWord s x).symm, (becomes_afterReadWord s x).2.1, becomes_writeWord s x v, fun h h' => ?_⟩
  rw [low_eq_loByte, high_eq_hiByte]
  exact ⟨State.readByte_writeWord_self s h h' v, State.readByte_writeWord_succ s h h' v,
    fun _ hy hy' => State.readByte_writeWord_of_ne s h h' v hy hy', State.readWord_writeWord s h h' v⟩

end Sys2Proof.Claims
end

section
/-! PROOF. The undefined values of byte 0 (30_encoding.md R88 to R90). The bytes after byte 0 choose the operation in
one cell of the grid only, 0xCB, and there never an undefined byte; so a list of columns per row says which cells are
undefined. -/

namespace Sys2Proof.Claims

open Sys2Proof.Machine

/-- The extended decoder's tables give the extended form of the byte (R90). -/
theorem form_decodeExtended : ∀ ext : Byte, (decodeExtended ext).form = extendedForm ext := by
  decide

/-- No byte after 0xCB makes an undefined byte (R90). -/
theorem isUndefined_decodeExtended (ext : Byte) : (decodeExtended ext).isUndefined = false := by
  rw [Instr.isUndefined, form_decodeExtended]
  rcases extendedForm_cases ext with ⟨_, _, e⟩ | ⟨_, _, e⟩ | ⟨_, _, e⟩ | ⟨_, _, e⟩ <;> rw [e] <;> rfl

theorem isUndefined_primaryRowC (lo : Nat) (imm8 : Byte) (imm16 : Word) :
    (primaryRowC lo imm8 imm16).isUndefined = false := by
  unfold primaryRowC
  split
  case h_12 => exact isUndefined_decodeExtended imm8
  all_goals rfl

/-- The columns of the undefined cells in a row of the grid (R88). -/
def undefinedColumns : Nat → List Nat
  | 0xD => [0x3, 0xB, 0xD]
  | 0xE => [0x3, 0x4, 0xB, 0xC, 0xD]
  | 0xF => [0x4, 0xC, 0xD]
  | _ => []

/-- Whether a cell of the grid is undefined does not depend on the operands: outside row Cx each cell holds one
constructor. -/
theorem isUndefined_decodePrimary {hi lo : Nat} (hhi : hi < 16) (hlo : lo < 16) (imm8 : Byte) (imm16 : Word) :
    (decodePrimary hi lo imm8 imm16).isUndefined = decide (lo ∈ undefinedColumns hi) := by
  rcases lt_trichotomy hi 0xC with above | rfl | below
  · interval_cases hi <;> interval_cases lo <;> rfl
  · exact isUndefined_primaryRowC lo imm8 imm16
  · interval_cases hi <;> interval_cases lo <;> rfl

/-- The list of R89 is what the columns list, row by row. -/
theorem mem_undefinedBytes_iff :
    ∀ b0 : Byte, b0 ∈ undefinedBytes ↔ b0.toNat % 16 ∈ undefinedColumns (b0.toNat / 16) := by
  decide

/-- Settles O5: the cell of byte 0 alone decides, and the undefined cells of the grid are the bytes of R89. -/
theorem elevenBytesAreUndefined : Obligations.ElevenBytesAreUndefined := by
  refine ⟨rfl, fun b0 b1 b2 => ?_⟩
  have hb0 := b0.isLt
  rw [decodeBytes, isUndefined_decodePrimary (by omega) (by omega), decide_eq_true_iff, mem_undefinedBytes_iff]

end Sys2Proof.Claims
end

section
/-! PROOF. 8-bit loads (41_load8.md R140 to R158). Each is one memory access, or none, then updates of other fields; an
update after a memory operation updates what the machine becomes, and no access. So the five statements are read off the
shared operations of Machine/Load8.lean. -/

namespace Sys2Proof.Claims

open Sys2Proof.Machine

theorem imm16Bytes_eq_immBytes (v : Word) : imm16Bytes v = immBytes v := by
  rw [immBytes, low_eq_loByte, high_eq_hiByte]
  rfl

/-- An instruction runs as its form does. -/
theorem runs_of_form {i : Instr} {f : Form} {s t post : State} {bytes : List Byte} {accesses : List Access}
    (hi : i.form = f) (hbytes : encodeForm f = bytes) (hexec : execForm f s = .next t)
    (ht : Becomes s t post accesses) : Runs i s bytes post accesses := by
  subst hi
  exact ⟨hbytes, t, (exec_eq_execForm i s).trans hexec, ht⟩

section
variable {s t post : State} {accesses : List Access} (h : Becomes s t post accesses)
include h

theorem Becomes.setReg (r : Reg8) (v : Byte) : Becomes s (t.setReg r v) (post.setReg r v) accesses := by
  obtain ⟨hrest, hbus, hstored⟩ := h
  refine ⟨?_, by rw [State.setReg_bus, hbus], fun x => by rw [State.setReg_stored, hstored]⟩
  have := congrArg (State.setReg r v) hrest
  cases r <;> exact this

theorem Becomes.setHL (v : Word) : Becomes s (t.setHL v) (post.setHL v) accesses := by
  obtain ⟨hrest, hbus, hstored⟩ := h
  exact ⟨congrArg (State.setHL v) hrest, hbus, hstored⟩

theorem Becomes.advance (len cost : Nat) : Becomes s (t.advance len cost) (post.advance len cost) accesses := by
  obtain ⟨hrest, hbus, hstored⟩ := h
  exact ⟨congrArg (State.advance len cost) hrest, hbus, hstored⟩

end

/-- A register write leaves PC and the counter, so the end of the instruction counts from the old ones (R24). -/
theorem advance_setReg (s : State) (r : Reg8) (v : Byte) (len cost : Nat) :
    (s.setReg r v).advance len cost =
      { s.setReg r v with pc := s.pc + BitVec.ofNat 16 len, cycles := s.cycles + cost } := by
  rw [State.advance, State.next, State.setReg_pc, State.setReg_cycles]

section
variable {i : Instr} {f : Form} {s : State} {bytes : List Byte} {addr hl' : Word} {v : Byte} {len cost : Nat}
  (hi : i.form = f) (hbytes : encodeForm f = bytes)
include hi hbytes

/-- A sequential instruction that writes one register and makes no access. -/
theorem runs_setReg {r : Reg8} (hexec : execForm f s = .next ((s.setReg r v).advance len cost)) :
    Runs i s bytes { s.setReg r v with pc := s.pc + BitVec.ofNat 16 len, cycles := s.cycles + cost } [] := by
  rw [← advance_setReg]
  exact runs_of_form hi hbytes hexec (((becomes_refl s).setReg r v).advance len cost)

/-- A sequential instruction that loads one register from one byte of memory. -/
theorem runs_loadByte {r : Reg8}
    (hexec : execForm f s = .next (((s.afterRead addr).setReg r (s.readByte addr)).advance len cost)) :
    Runs i s bytes
      { s.setReg r (s.readByte addr) with pc := s.pc + BitVec.ofNat 16 len, cycles := s.cycles + cost }
      [.read addr] := by
  rw [← advance_setReg]
  exact runs_of_form hi hbytes hexec (((becomes_afterRead s addr).setReg r _).advance len cost)

/-- A sequential instruction that stores one byte. -/
theorem runs_storeByte (hexec : execForm f s = .next ((s.writeByte addr v).advance len cost)) :
    Runs i s bytes { s with pc := s.pc + BitVec.ofNat 16 len, cycles := s.cycles + cost } [.write addr v] :=
  runs_of_form hi hbytes hexec ((becomes_writeByte s addr v).advance len cost)

theorem runs_loadA (hexec : execForm f s = loadA addr len cost s) :
    Runs i s bytes { s with a := s.readByte addr, pc := s.pc + BitVec.ofNat 16 len, cycles := s.cycles + cost }
      [.read addr] :=
  runs_loadByte hi hbytes (r := .a) hexec

theorem runs_storeA (hexec : execForm f s = storeA addr len cost s) :
    Runs i s bytes { s with pc := s.pc + BitVec.ofNat 16 len, cycles := s.cycles + cost } [.write addr s.a] :=
  runs_storeByte hi hbytes hexec

/-- The byte goes to the old HL (R155, R156). -/
theorem runs_storeAMoveHL (hexec : execForm f s = storeAMoveHL hl' cost s) :
    Runs i s bytes { s with h := high hl', l := low hl', pc := s.pc + 1#16, cycles := s.cycles + cost }
      [.write s.hl s.a] := by
  rw [high_eq_hiByte, low_eq_loByte]
  exact runs_of_form hi hbytes hexec (((becomes_writeByte s s.hl s.a).setHL hl').advance 1 cost)

/-- The byte comes from the old HL (R157, R158). -/
theorem runs_loadAMoveHL (hexec : execForm f s = loadAMoveHL hl' cost s) :
    Runs i s bytes
      { s with
        a := s.readByte s.hl, h := high hl', l := low hl', pc := s.pc + 1#16, cycles := s.cycles + cost }
      [.read s.hl] := by
  rw [high_eq_hiByte, low_eq_loByte]
  exact runs_of_form hi hbytes hexec ((((becomes_afterRead s s.hl).setReg .a _).setHL hl').advance 1 cost)

end

/-- Settles O31: one register is written, from a register, the instruction or the byte at the old HL. -/
theorem registerLoadsCopy : Obligations.RegisterLoadsCopy := by
  intro i dst s
  refine ⟨fun r hi => ?reg, fun d8 hi => ?imm, fun hi => ?atHL⟩
  case reg => exact runs_setReg hi rfl (by rw [execForm, loadRegReg, costOf_ldRegReg])
  case imm => exact runs_setReg hi rfl (by rw [execForm, loadRegImm, costOf_ldRegImm])
  case atHL => exact runs_loadByte hi rfl (by rw [execForm, loadRegAtHL, costOf_ldRegAtHL])

/-- Settles O32: the two forms are one store at HL, of a register or of the immediate. -/
theorem storesThroughHL : Obligations.StoresThroughHL := by
  intro i s
  refine ⟨fun r hi => ?reg, fun d8 hi => ?imm⟩
  case reg => exact runs_storeByte hi rfl (by rw [execForm, storeAtHL, costOf_ldAtHLReg])
  case imm => exact runs_storeByte hi rfl (by rw [execForm, storeAtHL, costOf_ldAtHLImm])

/-- Settles O33: the five forms are one load of A, and differ in the address. -/
theorem accumulatorLoadsFromMemory : Obligations.AccumulatorLoadsFromMemory := by
  intro i s
  simp only [highPage_eq_ofNat, ← imm16Bytes_eq_immBytes]
  refine ⟨fun hi => ?atBC, fun hi => ?atDE, fun a16 hi => ?atAbs, fun a8 hi => ?highPage, fun hi => ?atC⟩
  case atBC => exact runs_loadA hi rfl (by rw [execForm, costOf_ldAAtBC])
  case atDE => exact runs_loadA hi rfl (by rw [execForm, costOf_ldAAtDE])
  case atAbs => exact runs_loadA hi rfl (by rw [execForm, costOf_ldAAtAbs])
  case highPage => exact runs_loadA hi rfl (by rw [execForm, costOf_ldhAAt])
  case atC => exact runs_loadA hi rfl (by rw [execForm, costOf_ldAAtC])

/-- Settles O34: the five forms are one store of A, and differ in the address. -/
theorem accumulatorStoresToMemory : Obligations.AccumulatorStoresToMemory := by
  intro i s
  simp only [highPage_eq_ofNat, ← imm16Bytes_eq_immBytes]
  refine ⟨fun hi => ?atBC, fun hi => ?atDE, fun a16 hi => ?atAbs, fun a8 hi => ?highPage, fun hi => ?atC⟩
  case atBC => exact runs_storeA hi rfl (by rw [execForm, costOf_ldAtBCA])
  case atDE => exact runs_storeA hi rfl (by rw [execForm, costOf_ldAtDEA])
  case atAbs => exact runs_storeA hi rfl (by rw [execForm, costOf_ldAtAbsA])
  case highPage => exact runs_storeA hi rfl (by rw [execForm, costOf_ldhAtA])
  case atC => exact runs_storeA hi rfl (by rw [execForm, costOf_ldAtCA])

/-- Settles O35: the access is made before HL is written, so its address is the old HL. -/
theorem postMovingLoads : Obligations.PostMovingLoads := by
  intro i s
  refine ⟨fun hi => ?storeInc, fun hi => ?storeDec, fun hi => ?loadInc, fun hi => ?loadDec⟩
  case storeInc => exact runs_storeAMoveHL hi rfl (by rw [execForm, costOf_ldAtHLIncA])
  case storeDec => exact runs_storeAMoveHL hi rfl (by rw [execForm, costOf_ldAtHLDecA])
  case loadInc => exact runs_loadAMoveHL hi rfl (by rw [execForm, costOf_ldAAtHLInc])
  case loadDec => exact runs_loadAMoveHL hi rfl (by rw [execForm, costOf_ldAAtHLDec])

end Sys2Proof.Claims
end

section
/-! PROOF. 16-bit loads and the stack (42_load16_stack.md R170 to R176), and `ADD SP,e8` (44_alu16.md R223), which
computes as `LD HL,SP+e8` does. A word access is its two byte accesses; the rest of each instruction updates fields that
no access sees. -/

namespace Sys2Proof.Claims

open Sys2Proof.Machine

/-- An instruction that leaves storage and what devices have seen makes no access. -/
theorem runs_noAccess {i : Instr} {f : Form} {s post : State} {bytes : List Byte} (hi : i.form = f)
    (hbytes : encodeForm f = bytes) (hexec : execForm f s = .next post) (hmem : post.mem = s.mem)
    (hbus : post.bus = s.bus) : Runs i s bytes post [] :=
  runs_of_form hi hbytes hexec ((becomes_refl s).update hmem hbus rfl)

/-- A pair written leaves PC and the counter, so the end of the instruction counts from the old ones (R24). -/
theorem advance_setPair (s : State) (p : Pair) (v : Word) (len cost : Nat) :
    (s.setPair p v).advance len cost =
      { s.setPair p v with pc := s.pc + BitVec.ofNat 16 len, cycles := s.cycles + cost } := by
  rw [State.advance, State.next, State.setPair_pc, State.setPair_cycles]

/-- The flags of `addsp`, written into F: none keeps its old value (R117). -/
theorem setFlags_addsp (s : State) (sp : Word) (e8 : Byte) :
    s.setFlags (addsp sp e8).2 =
      { s with
        f := flagByte false false (decide (sp.toNat % 16 + e8.toNat % 16 > 15))
          (decide (sp.toNat % 256 + e8.toNat > 255)) } := rfl

/-- The two stores of a word pushed, counted down from the old SP (R22, R174). -/
theorem wordStores_below (sp v : Word) :
    wordStores (sp - 2#16) v = [.write (sp - 2#16) (loByte v), .write (sp - 1#16) (hiByte v)] := by
  have hsucc : sp - 2#16 + 1#16 = sp - 1#16 := by bv_omega
  rw [wordStores, hsucc, low_eq_loByte, high_eq_hiByte]

/-- A push moves SP before it stores, so the word goes to the new SP (R22, R174). -/
theorem becomes_push (s : State) (v : Word) :
    Becomes s (s.push v) { s with sp := s.sp - 2#16 } (wordStores (s.sp - 2#16) v) := by
  obtain ⟨-, hbus, hstored⟩ := becomes_writeWord { s with sp := s.sp - 2#16 } (s.sp - 2#16) v
  exact ⟨rfl, hbus, hstored⟩

/-- The high byte of the word at `x` is read second, so a device may answer by the first read (R52). -/
theorem readNext_succ_eq_hiByte (s : State) (x : Word) : readNext s [.read x] (x + 1#16) = hiByte (s.readWord x) := by
  rw [readNext_read, readNext_nil, State.hiByte_readWord]

/-- `PUSH rr` with the pair's halves named (R174). -/
theorem runs_push {i : Instr} {s : State} {q : StackPair} {hi lo : Byte} (hform : i.form = .push q)
    (hpair : s.stackPair q = joinBytes hi lo) :
    Runs i s [0b11#2 ++ q.code ++ 0b0101#4]
      { s with sp := s.sp - 2#16, pc := s.pc + 1#16, cycles := s.cycles + 4 }
      [.write (s.sp - 2#16) lo, .write (s.sp - 1#16) hi] := by
  have hstores : wordStores (s.sp - 2#16) (s.stackPair q) = [.write (s.sp - 2#16) lo, .write (s.sp - 1#16) hi] := by
    rw [wordStores_below, hpair, loByte_joinBytes, hiByte_joinBytes]
  rw [← hstores]
  exact runs_of_form hform rfl (by rw [execForm, pushPair, costOf_push]) ((becomes_push s _).advance 1 4)

/-- `POP rr` with the word read named, whatever pair it is written to (R175, R176). -/
theorem runs_pop {i : Instr} {s : State} {q : StackPair} (hform : i.form = .pop q) :
    Runs i s [0b11#2 ++ q.code ++ 0b0001#4]
      { s.setStackPair q (s.readWord s.sp) with
        sp := s.sp + 2#16, pc := s.pc + 1#16, cycles := s.cycles + 3 } (wordReads s.sp) := by
  have hexec : execForm (.pop q) s = .next ((s.dropWord.setStackPair q (s.readWord s.sp)).advance 1 3) := by
    rw [execForm, popPair, costOf_pop]
  refine runs_of_form hform rfl hexec ((becomes_afterReadWord s s.sp).update ?mem ?bus ?rest)
  case mem => rw [State.advance_mem, State.setStackPair_mem]; rfl
  case bus => rw [State.advance_bus, State.setStackPair_bus]; rfl
  case rest => cases q <;> rfl

/-- Settles O36: a pair is written from the instruction or from HL, or SP is stored by one word write. -/
theorem sixteenBitLoads : Obligations.SixteenBitLoads := by
  intro i s
  simp only [← imm16Bytes_eq_immBytes]
  refine ⟨fun p d16 hi => ?pairImm, fun a16 hi => ?storeSP, fun hi => ?spFromHL⟩
  case pairImm =>
    exact runs_noAccess hi rfl (by rw [execForm, loadPairImm, costOf_ldPairImm, advance_setPair])
      (State.setPair_mem s p d16) (State.setPair_bus s p d16)
  case storeSP =>
    exact runs_of_form hi rfl (by rw [execForm, storeSP, costOf_ldAtAbsSP])
      ((becomes_writeWord s a16 s.sp).advance 3 5)
  case spFromHL =>
    exact runs_noAccess hi rfl (by rw [execForm, loadSPFromHL, costOf_ldSPHL, advance_setPair]; rfl) rfl rfl

/-- Settles O37: both forms are `addsp`, whose sum is the signed one and whose flags are of the low byte. -/
theorem stackPointerPlusDisplacement : Obligations.StackPointerPlusDisplacement := by
  intro i s e8
  simp only [← add_sext16, high_eq_hiByte, low_eq_loByte]
  refine ⟨fun hi => ?toHL, fun hi => ?toSP⟩
  case toHL =>
    exact runs_noAccess hi rfl (by rw [execForm, loadHLFromSPPlus, costOf_ldHLSPPlus, setFlags_addsp]; rfl) rfl rfl
  case toSP =>
    exact runs_noAccess hi rfl (by rw [execForm, addToSP, costOf_addSP, setFlags_addsp]; rfl) rfl rfl

/-- Settles O38: each pair is read as its two halves joined, F masked among them. -/
theorem pushStoresThePair : Obligations.PushStoresThePair := by
  intro i s q hform
  cases q with
  | bc | de | hl | af => exact runs_push hform rfl

/-- Settles O39: the two bytes read are the halves of the word that the pair is written from. -/
theorem popLoadsThePair : Obligations.PopLoadsThePair := by
  intro i s q hform
  rw [readNext_succ_eq_hiByte, ← State.loByte_readWord]
  cases q with
  | bc | de | hl | af => exact runs_pop hform

end Sys2Proof.Claims
end

section
/-! PROOF. 8-bit arithmetic and logic (43_alu8.md R190 to R206). Each instruction reads an operand or none, writes A or
the operand's location, then F and PC; so the statements are read off what the shared operations of Machine/Alu8.lean
become, and off the primitives of 40_alu_primitives.md on numbers. -/

namespace Sys2Proof.Machine

-- Z on numbers

theorem isZero_eq_decide_toNat (v : Byte) : isZero v = decide (v.toNat = 0) :=
  decide_eq_decide.2 BitVec.toNat_eq

theorem isZero_ofNat (n : Nat) : isZero (BitVec.ofNat 8 n) = decide (n % 256 = 0) := by
  rw [isZero_eq_decide_toNat, BitVec.toNat_ofNat]

theorem isZero_ofInt (n : Int) : isZero (BitVec.ofInt 8 n) = decide (n % 256 = 0) := by
  rw [isZero_eq_decide_toNat, BitVec.toNat_ofInt]
  exact decide_eq_decide.2 (by omega)

/-- An increment reaches zero from 0xFF only (R114). -/
theorem isZero_inc8 (v : Byte) : isZero (inc8 v).1 = decide (v.toNat = 0xFF) := by
  have hv := v.isLt
  rw [inc8, isZero_ofNat]
  exact decide_eq_decide.2 (by omega)

/-- A decrement reaches zero from 1 only (R115). -/
theorem isZero_dec8 (v : Byte) : isZero (dec8 v).1 = decide (v.toNat = 1) := by
  have hv := v.isLt
  rw [dec8, isZero_ofInt]
  exact decide_eq_decide.2 (by omega)

-- The decimal correction (R126)

/-- Whether `daa8` corrects the low digit. -/
def daaLow (a : Byte) (n h : Bool) : Bool := h || (!n && decide (a.toNat % 16 > 0x09))

/-- Whether `daa8` corrects the high digit; this is the C it leaves. -/
def daaHigh (a : Byte) (n c : Bool) : Bool := c || (!n && decide (a.toNat > 0x99))

/-- The byte that `daa8` adds or subtracts. -/
def daaCorrection (low high : Bool) : Byte := (if low then 0x06#8 else 0x00#8) ||| (if high then 0x60#8 else 0x00#8)

theorem daa8_result (a : Byte) (n h c : Bool) :
    (daa8 a n h c).1 =
      if n then a - daaCorrection (daaLow a n h) (daaHigh a n c)
      else a + daaCorrection (daaLow a n h) (daaHigh a n c) := rfl

theorem daa8_flags (a : Byte) (n h c : Bool) :
    (daa8 a n h c).2 = { z := some (isZero (daa8 a n h c).1), n := none, h := some false, c := some (daaHigh a n c) } :=
  rfl

theorem daaLow_iff (a : Byte) (n h : Bool) : daaLow a n h = true ↔ h = true ∨ (n = false ∧ a.toNat % 16 > 9) := by
  simp [daaLow]

theorem daaHigh_iff (a : Byte) (n c : Bool) : daaHigh a n c = true ↔ c = true ∨ (n = false ∧ a.toNat > 0x99) := by
  simp [daaHigh]

/-- `a - v` in 8 bits is the difference on integers, wrapped. -/
theorem sub_eq_ofInt (a v : Byte) : a - v = BitVec.ofInt 8 ((a.toNat : Int) - v.toNat) := by
  apply BitVec.eq_of_toNat_eq
  rw [BitVec.toNat_sub, BitVec.toNat_ofInt]
  omega

/-- Complementing a byte is subtracting it from 255 (R204). -/
theorem not_eq_ofNat (v : Byte) : ~~~v = BitVec.ofNat 8 (255 - v.toNat) := by
  apply BitVec.eq_of_toNat_eq
  rw [BitVec.toNat_not, BitVec.toNat_ofNat]
  omega

end Sys2Proof.Machine

namespace Sys2Proof.Claims

open Sys2Proof.Machine

-- F after each primitive

theorem setFlags_add8_f (s : State) (a v : Byte) (cin : Bool) :
    (s.setFlags (add8 a v cin).2).f = addFlags a.toNat v.toNat cin.toNat := by
  rw [addFlags, ← isZero_ofNat]
  rfl

theorem setFlags_sub8_f (s : State) (a v : Byte) (bin : Bool) :
    (s.setFlags (sub8 a v bin).2).f = subFlags a.toNat v.toNat bin.toNat := by
  rw [subFlags, ← isZero_ofInt]
  rfl

theorem setFlags_and8_f (s : State) (a v : Byte) :
    (s.setFlags (and8 a v).2).f = flagByte (decide ((a &&& v).toNat = 0)) false true false := by
  rw [← isZero_eq_decide_toNat]
  rfl

theorem setFlags_xor8_f (s : State) (a v : Byte) :
    (s.setFlags (xor8 a v).2).f = flagByte (decide ((a ^^^ v).toNat = 0)) false false false := by
  rw [← isZero_eq_decide_toNat]
  rfl

theorem setFlags_or8_f (s : State) (a v : Byte) :
    (s.setFlags (or8 a v).2).f = flagByte (decide ((a ||| v).toNat = 0)) false false false := by
  rw [← isZero_eq_decide_toNat]
  rfl

theorem setFlags_inc8_f (s : State) (v : Byte) :
    (s.setFlags (inc8 v).2).f = flagByte (decide (v.toNat = 0xFF)) false (decide (v.toNat % 16 = 15)) s.fC := by
  rw [← isZero_inc8]
  rfl

theorem setFlags_dec8_f (s : State) (v : Byte) :
    (s.setFlags (dec8 v).2).f = flagByte (decide (v.toNat = 1)) true (decide (v.toNat % 16 = 0)) s.fC := by
  rw [← isZero_dec8]
  rfl

-- What the shared operations become

/-- Writing F updates what the machine becomes, and no access. -/
theorem Becomes.setFlags {s t post : State} {accesses : List Access} (h : Becomes s t post accesses)
    (u : FlagUpdate) : Becomes s (t.setFlags u) (post.setFlags u) accesses := by
  obtain ⟨hrest, hbus, hstored⟩ := h
  exact ⟨congrArg (State.setFlags u) hrest, hbus, hstored⟩

theorem becomes_afterSource (s : State) (src : Src) : Becomes s (s.afterSource src) s (sourceRead src s) := by
  rcases src with (r | _) | d8
  · exact becomes_refl s
  · exact becomes_afterRead s s.hl
  · exact becomes_refl s

/-- A location read, then written (R82). -/
theorem becomes_writeLoc (s : State) (l : Loc) (v : Byte) :
    Becomes s ((s.afterReadLoc l).writeLoc l v) (atLoc l v s).1 (atLoc l v s).2 := by
  cases l with
  | reg r => exact (becomes_refl s).setReg r v
  | atHL => exact becomes_readModifyWrite s s.hl v

/-- F and PC written last, over a location's update: the flags kept are the old ones, and PC counts from the old one. -/
theorem advance_setFlags_atLoc (s : State) (l : Loc) (v : Byte) (u : FlagUpdate) (len cost : Nat) :
    ((atLoc l v s).1.setFlags u).advance len cost =
      { (atLoc l v s).1 with
        f := (s.setFlags u).f, pc := s.pc + BitVec.ofNat 16 len, cycles := s.cycles + cost } := by
  cases l with
  | atHL => rfl
  | reg r => cases r <;> rfl

/-- Bytes, length and cost of an accumulator operation, as its form has them (R190). -/
theorem aluShape_code (op : AluOp) (src : Src) :
    aluShape op.code src =
      (encodeForm (.alu op src), BitVec.ofNat 16 (sourceLength src), costOf (.alu op src)) := by
  rcases src with (r | _) | d8
  · rw [costOf_aluReg]; rfl
  · rw [costOf_aluAtHL]; rfl
  · rw [costOf_aluImm]; rfl

section
variable {i : Instr} {s : State} {op : AluOp} {src : Src} {result flags : Byte}

/-- An accumulator operation ends in A, F and PC, over the read of its source (R190). -/
theorem accumulates_of_exec {t : State} (hi : i.form = .alu op src)
    (ht : Becomes s t { s with a := result, f := flags } (sourceRead src s))
    (hexec : execForm (.alu op src) s = .next (t.advance (sourceLength src) (costOf (.alu op src)))) :
    Accumulates i s op.code src result flags := by
  rw [Accumulates, aluShape_code]
  exact runs_of_form hi rfl hexec (ht.advance _ _)

/-- The seven operations that write A leave the primitive's result and flags (R191 to R197). -/
theorem accumulates_of_accumulate (hi : i.form = .alu op src)
    (hexec : execForm (.alu op src) s = accumulate op src s)
    (hresult : (alu8 op s.a (s.source src) s.fC).1 = result)
    (hflags : (s.setFlags (alu8 op s.a (s.source src) s.fC).2).f = flags) :
    Accumulates i s op.code src result flags := by
  subst hresult hflags
  exact accumulates_of_exec hi (((becomes_afterSource s src).setReg .a _).setFlags _) hexec

/-- `CP` leaves A and the flags of the subtraction (R198). -/
theorem accumulates_of_compareA (hi : i.form = .alu .cp src)
    (hflags : (s.setFlags (sub8 s.a (s.source src) false).2).f = flags) :
    Accumulates i s 0b111#3 src s.a flags := by
  subst hflags
  exact accumulates_of_exec (op := .cp) hi ((becomes_afterSource s src).setFlags _) rfl

end

section
variable {i : Instr} {f : Form} {s : State} {bytes : List Byte} {l : Loc} {v flags : Byte} {u : FlagUpdate} {cost : Nat}
  (hi : i.form = f) (hbytes : encodeForm f = bytes)
include hi hbytes

/-- A sequential instruction that updates a location and F. -/
theorem runs_writeLoc {len : Nat} (hflags : (s.setFlags u).f = flags)
    (hexec : execForm f s = .next ((((s.afterReadLoc l).writeLoc l v).setFlags u).advance len cost)) :
    Runs i s bytes
      { (atLoc l v s).1 with f := flags, pc := s.pc + BitVec.ofNat 16 len, cycles := s.cycles + cost }
      (atLoc l v s).2 := by
  rw [← hflags, ← advance_setFlags_atLoc]
  exact runs_of_form hi hbytes hexec (((becomes_writeLoc s l v).setFlags u).advance len cost)

/-- A one-byte instruction on A and F alone. -/
theorem runs_setA (hflags : (s.setFlags u).f = flags)
    (hexec : execForm f s = .next (((s.setReg .a v).setFlags u).advance 1 cost)) :
    Runs i s bytes { s with a := v, f := flags, pc := s.pc + 1#16, cycles := s.cycles + cost } [] :=
  runs_writeLoc (l := .reg .a) hi hbytes hflags hexec

/-- A one-byte instruction on F alone. -/
theorem runs_changeCarry (hflags : (s.setFlags u).f = flags) (hexec : execForm f s = changeCarry u cost s) :
    Runs i s bytes { s with f := flags, pc := s.pc + 1#16, cycles := s.cycles + cost } [] := by
  subst hflags
  exact runs_noAccess hi hbytes hexec rfl rfl

end

/-- The operation bits of `INC` read as one field (30_encoding.md R81). -/
theorem encodeForm_incLoc (l : Loc) : encodeForm (.incLoc l) = [0b00#2 ++ l.code ++ 0b100#3] := by
  cases l with
  | atHL => rfl
  | reg r => cases r <;> rfl

/-- The operation bits of `DEC` read as one field (30_encoding.md R81). -/
theorem encodeForm_decLoc (l : Loc) : encodeForm (.decLoc l) = [0b00#2 ++ l.code ++ 0b101#3] := by
  cases l with
  | atHL => rfl
  | reg r => cases r <;> rfl

theorem costOf_incLoc (l : Loc) : costOf (.incLoc l) = kindCost l 1 3 := by
  cases l with
  | reg r => exact costOf_incReg r
  | atHL => exact costOf_incAtHL

theorem costOf_decLoc (l : Loc) : costOf (.decLoc l) = kindCost l 1 3 := by
  cases l with
  | reg r => exact costOf_decReg r
  | atHL => exact costOf_decAtHL

/-- Settles O40: both operations are `add8`, ADC with the old carry in. -/
theorem addAndAdc : Obligations.AddAndAdc := by
  intro i s src
  refine ⟨fun hi => ?add, fun hi => ?adc⟩
  case add => exact accumulates_of_accumulate (op := .add) hi rfl rfl (setFlags_add8_f s s.a _ false)
  case adc => exact accumulates_of_accumulate (op := .adc) hi rfl rfl (setFlags_add8_f s s.a _ s.fC)

/-- Settles O41: the three operations are `sub8`, SBC with the old carry in and CP without the result. -/
theorem subSbcAndCp : Obligations.SubSbcAndCp := by
  intro i s src
  refine ⟨fun hi => ?sub, fun hi => ?sbc, fun hi => ?cp⟩
  case sub => exact accumulates_of_accumulate (op := .sub) hi rfl rfl (setFlags_sub8_f s s.a _ false)
  case sbc => exact accumulates_of_accumulate (op := .sbc) hi rfl rfl (setFlags_sub8_f s s.a _ s.fC)
  case cp => exact accumulates_of_compareA hi (setFlags_sub8_f s s.a _ false)

/-- Settles O42: each operation writes all four flags, Z alone from the result. -/
theorem andXorAndOr : Obligations.AndXorAndOr := by
  intro i s src
  refine ⟨fun hi => ?and, fun hi => ?xor, fun hi => ?or⟩
  case and => exact accumulates_of_accumulate (op := .and) hi rfl rfl (setFlags_and8_f s s.a _)
  case xor => exact accumulates_of_accumulate (op := .xor) hi rfl rfl (setFlags_xor8_f s s.a _)
  case or => exact accumulates_of_accumulate (op := .or) hi rfl rfl (setFlags_or8_f s s.a _)

/-- Settles O43: the location is read, then written, and the flags are those of the byte read. -/
theorem incrementAndDecrement : Obligations.IncrementAndDecrement := by
  intro i s l
  refine ⟨fun hi => ?inc, fun hi => ?dec⟩
  case inc =>
    exact runs_writeLoc hi (encodeForm_incLoc l) (setFlags_inc8_f s (s.readLoc l))
      (by rw [execForm, incrementAt, costOf_incLoc]; rfl)
  case dec =>
    exact runs_writeLoc hi (encodeForm_decLoc l) (setFlags_dec8_f s (s.readLoc l))
      (by rw [execForm, decrementAt, costOf_decLoc]; rfl)

/-- Settles O44: the two tests on the old A select one of four corrections. -/
theorem decimalAdjust : Obligations.DecimalAdjust := by
  intro i s hi
  simp only [← daaLow_iff, ← daaHigh_iff, Bool.not_eq_true]
  generalize hlow : daaLow s.a s.fN s.fH = low
  generalize hhigh : daaHigh s.a s.fN s.fC = high
  have hresult : (daa8 s.a s.fN s.fH s.fC).1 =
      if s.fN then BitVec.ofInt 8 ((s.a.toNat : Int) - (daaCorrection low high).toNat)
      else BitVec.ofNat 8 (s.a.toNat + (daaCorrection low high).toNat) := by
    rw [daa8_result, hlow, hhigh, sub_eq_ofInt, BitVec.add_def]
  have hflags : (s.setFlags (daa8 s.a s.fN s.fH s.fC).2).f =
      flagByte (decide ((daa8 s.a s.fN s.fH s.fC).1.toNat = 0)) s.fN false high := by
    rw [daa8_flags, hhigh, isZero_eq_decide_toNat]
    rfl
  refine ⟨(daaCorrection low high).toNat, _, high, ?both, ?lowOnly, ?highOnly, ?none, Iff.rfl, hresult,
    runs_setA hi rfl hflags (by rw [execForm, Machine.decimalAdjust, costOf_daa])⟩
  case both | lowOnly | highOnly | none =>
    rintro ⟨rfl, rfl⟩
    rfl

/-- Settles O46: CPL writes A and two flags, SCF and CCF write F alone; none writes Z. -/
theorem complementAndCarryFlag : Obligations.ComplementAndCarryFlag := by
  intro i s
  refine ⟨fun hi => ?cpl, fun hi => ?scf, fun hi => ?ccf⟩
  case cpl => exact runs_setA (u := cplFlags) hi rfl rfl (by rw [execForm, complementA, costOf_cpl, not_eq_ofNat])
  case scf => exact runs_changeCarry (u := scfFlags) hi rfl rfl (by rw [execForm, costOf_scf])
  case ccf => exact runs_changeCarry (u := ccfFlags s.fC) hi rfl rfl (by rw [execForm, costOf_ccf])

end Sys2Proof.Claims
end

section
/-! PROOF. 16-bit arithmetic (44_alu16.md R220 to R222). None of these instructions makes an access; `ADD HL,rr` reads
its pair before it writes HL, and a decrement is the addition of 0xFFFF modulo 2^16. -/

namespace Sys2Proof.Claims

open Sys2Proof.Machine

/-- The low byte of a sum needs no reduction modulo 2^16 first. -/
theorem low_ofNat (n : Nat) : low (BitVec.ofNat 16 n) = BitVec.ofNat 8 (n % 256) := by
  rw [low, BitVec.toNat_ofNat, Nat.mod_mod_of_dvd n (by decide)]

/-- The high byte of a sum is that of the sum modulo 2^16. -/
theorem high_ofNat (n : Nat) : high (BitVec.ofNat 16 n) = BitVec.ofNat 8 (n % 65536 / 256) := by
  rw [high, BitVec.toNat_ofNat]

/-- HL and the flags of `add16`, written: Z keeps its old value (R116). -/
theorem setFlags_setHL_add16 (s : State) (x y : Word) :
    (s.setHL (add16 x y).1).setFlags (add16 x y).2 =
      { s with
        h := BitVec.ofNat 8 ((x.toNat + y.toNat) % 65536 / 256), l := BitVec.ofNat 8 ((x.toNat + y.toNat) % 256),
        f := flagByte s.fZ false (decide (x.toNat % 4096 + y.toNat % 4096 > 4095))
          (decide (x.toNat + y.toNat > 65535)) } := by
  rw [← low_ofNat, ← high_ofNat, low_eq_loByte, high_eq_hiByte]
  rfl

/-- A one-byte instruction that writes one pair and touches no flag. -/
theorem runs_setPair {i : Instr} {f : Form} {s : State} {bytes : List Byte} {p : Pair} {v w : Word} {cost : Nat}
    (hi : i.form = f) (hbytes : encodeForm f = bytes) (hvalue : v = w)
    (hexec : execForm f s = .next ((s.setPair p v).advance 1 cost)) :
    Runs i s bytes { s.setPair p w with pc := s.pc + 1#16, cycles := s.cycles + cost } [] := by
  subst hvalue
  exact runs_noAccess hi hbytes (by rw [hexec, advance_setPair])
    (State.setPair_mem s p v) (State.setPair_bus s p v)

/-- Settles O47: HL and F are those of `add16`, on HL and the pair as they were. -/
theorem addToHL : Obligations.AddToHL := by
  intro i s p hi
  exact runs_noAccess hi rfl (by rw [execForm, Machine.addToHL, costOf_addHL, setFlags_setHL_add16]; rfl) rfl rfl

/-- Settles O48: one pair is written, F is not. -/
theorem incrementAndDecrementPair : Obligations.IncrementAndDecrementPair := by
  intro i s p
  have hdec : s.pair p - 1#16 = BitVec.ofNat 16 ((s.pair p).toNat + 65535) := by
    rw [BitVec.sub_def, Nat.add_comm]
    rfl
  refine ⟨fun hi => ?inc, fun hi => ?dec⟩
  case inc => exact runs_setPair hi rfl (BitVec.add_def ..) (by rw [execForm, incrementPair, costOf_incPair])
  case dec => exact runs_setPair hi rfl hdec (by rw [execForm, decrementPair, costOf_decPair])

end Sys2Proof.Claims
end

section
/-! PROOF. Rotates, shifts and bits (45_rotate_shift_bit.md R230 to R245). The primitives of 40_alu_primitives.md move a
byte by one bit and put a new bit in at its free end, so each is a shift joined with that bit; the instructions are then
one location read and written, and F. -/

namespace Sys2Proof.Machine

-- One bit in at the low or the high end

/-- Moving up one bit, `b` into bit 0. -/
theorem append_low_bit (v : Byte) (b : BitVec 1) : v.extractLsb' 0 7 ++ b = v <<< 1 ||| b.setWidth 8 := by
  apply BitVec.eq_of_getLsbD_eq
  intro i hi
  rw [BitVec.getLsbD_append, BitVec.getLsbD_or]
  cases i with
  | zero => simp
  | succ i =>
    have hi' : i < 7 := by omega
    simp only [BitVec.getLsbD_extractLsb', BitVec.getLsbD_shiftLeft, BitVec.getLsbD_setWidth, hi]
    simp [hi']

/-- Moving down one bit, `b` into bit 7. -/
theorem append_high_bit (v : Byte) (b : BitVec 1) : b ++ v.extractLsb' 1 7 = v >>> 1 ||| b.setWidth 8 <<< 7 := by
  apply BitVec.eq_of_getLsbD_eq
  intro i hi
  rw [BitVec.getLsbD_append, BitVec.getLsbD_or]
  by_cases h : i < 7
  · simp [h]
  · obtain rfl : i = 7 := by omega
    simp

theorem setWidth_bit7 (v : Byte) : (v.extractLsb' 7 1).setWidth 8 = v >>> 7 := by
  apply BitVec.eq_of_toNat_eq
  rw [BitVec.toNat_setWidth, BitVec.extractLsb'_toNat, BitVec.toNat_ushiftRight, Nat.shiftRight_eq_div_pow]
  omega

theorem setWidth_bit0 (v : Byte) : (v.extractLsb' 0 1).setWidth 8 = v &&& 1#8 := by
  apply BitVec.eq_of_toNat_eq
  rw [BitVec.toNat_setWidth, BitVec.extractLsb'_toNat, Nat.shiftRight_zero, BitVec.toNat_and, BitVec.toNat_ofNat,
    Nat.one_mod, Nat.and_one_is_mod]
  omega

theorem setWidth_ofBool (b : Bool) : (BitVec.ofBool b).setWidth 8 = if b then 1#8 else 0#8 := by
  cases b <;> rfl

/-- The top bit moved down and up again is the top bit alone. -/
theorem bit7_in_place (v : Byte) : v >>> 7 <<< 7 = v &&& 0x80#8 := by
  rw [BitVec.shiftLeft_ushiftRight]
  rfl

-- Shifts on numbers

theorem shiftLeft_one_eq_ofNat (v : Byte) : v <<< 1 = BitVec.ofNat 8 (2 * v.toNat) := by
  apply BitVec.eq_of_toNat_eq
  rw [BitVec.toNat_shiftLeft, BitVec.toNat_ofNat, Nat.shiftLeft_eq, Nat.mul_comm]

theorem ushiftRight_one_eq_ofNat (v : Byte) : v >>> 1 = BitVec.ofNat 8 (v.toNat / 2) := by
  apply BitVec.eq_of_toNat_eq
  rw [BitVec.toNat_ushiftRight, BitVec.toNat_ofNat, Nat.shiftRight_eq_div_pow]
  omega

theorem append_nibbles_eq_ofNat (v : Byte) :
    v.extractLsb' 0 4 ++ v.extractLsb' 4 4 = BitVec.ofNat 8 (16 * (v.toNat % 16) + v.toNat / 16) := by
  have hv := v.isLt
  have hlow : (v.extractLsb' 0 4).toNat = v.toNat % 16 := BitVec.extractLsb'_toNat 0 4 v
  have hhigh : (v.extractLsb' 4 4).toNat = v.toNat / 16 := by
    rw [BitVec.extractLsb'_toNat, Nat.shiftRight_eq_div_pow]
    exact Nat.mod_eq_of_lt (by omega)
  apply BitVec.eq_of_toNat_eq
  rw [BitVec.toNat_append, ← Nat.shiftLeft_add_eq_or_of_lt (BitVec.isLt _), hlow, hhigh, Nat.shiftLeft_eq,
    BitVec.toNat_ofNat]
  omega

-- One bit on numbers

theorem bit7_eq_decide (v : Byte) : v.getLsbD 7 = decide (v.toNat ≥ 128) := v.msb_eq_decide

theorem bit0_eq_decide (v : Byte) : v.getLsbD 0 = decide (v.toNat % 2 = 1) := Nat.testBit_zero _

theorem not_getLsbD_eq_decide (v : Byte) (n : Nat) : (!v.getLsbD n) = decide (v.toNat / 2 ^ n % 2 = 0) := by
  rw [BitVec.getLsbD, Nat.testBit_eq_decide_div_mod_eq, ← decide_not]
  exact decide_eq_decide.2 (by omega)

theorem bitMask_eq_ofNat (n : BitVec 3) : bitMask n = BitVec.ofNat 8 (2 ^ n.toNat) := by
  apply BitVec.eq_of_toNat_eq
  rw [bitMask, ← BitVec.twoPow_eq, BitVec.toNat_twoPow, BitVec.toNat_ofNat]

-- The primitives

/-- What each rotate or shift answers: the result, and the flags of it and the bit shifted out. -/
def shiftedTo (result : Byte) (carry : Bool) : Byte × FlagUpdate := (result, shiftFlags result carry)

theorem rlc8_eq (v : Byte) : rlc8 v = shiftedTo (v <<< 1 ||| v >>> 7) (decide (v.toNat ≥ 128)) := by
  rw [← bit7_eq_decide, ← setWidth_bit7, ← append_low_bit]
  rfl

theorem rrc8_eq (v : Byte) : rrc8 v = shiftedTo (v >>> 1 ||| (v &&& 1#8) <<< 7) (decide (v.toNat % 2 = 1)) := by
  rw [← bit0_eq_decide, ← setWidth_bit0, ← append_high_bit]
  rfl

theorem rl8_eq (v : Byte) (cin : Bool) :
    rl8 v cin = shiftedTo (v <<< 1 ||| if cin then 1#8 else 0#8) (decide (v.toNat ≥ 128)) := by
  rw [← bit7_eq_decide, ← setWidth_ofBool, ← append_low_bit]
  rfl

theorem rr8_eq (v : Byte) (cin : Bool) :
    rr8 v cin = shiftedTo (v >>> 1 ||| (if cin then 1#8 else 0#8) <<< 7) (decide (v.toNat % 2 = 1)) := by
  rw [← bit0_eq_decide, ← setWidth_ofBool, ← append_high_bit]
  rfl

theorem sla8_eq (v : Byte) : sla8 v = shiftedTo (BitVec.ofNat 8 (2 * v.toNat)) (decide (v.toNat ≥ 128)) := by
  have hresult : v.extractLsb' 0 7 ++ 0#1 = BitVec.ofNat 8 (2 * v.toNat) := by
    rw [append_low_bit, ← shiftLeft_one_eq_ofNat]
    exact BitVec.or_zero
  rw [← bit7_eq_decide, ← hresult]
  rfl

theorem sra8_eq (v : Byte) : sra8 v = shiftedTo (v >>> 1 ||| (v &&& 0x80#8)) (decide (v.toNat % 2 = 1)) := by
  rw [← bit0_eq_decide, ← bit7_in_place, ← setWidth_bit7, ← append_high_bit]
  rfl

theorem srl8_eq (v : Byte) : srl8 v = shiftedTo (BitVec.ofNat 8 (v.toNat / 2)) (decide (v.toNat % 2 = 1)) := by
  have hresult : 0#1 ++ v.extractLsb' 1 7 = BitVec.ofNat 8 (v.toNat / 2) := by
    rw [append_high_bit, ← ushiftRight_one_eq_ofNat]
    exact BitVec.or_zero
  rw [← bit0_eq_decide, ← hresult]
  rfl

theorem swap8_eq (v : Byte) : swap8 v = shiftedTo (BitVec.ofNat 8 (16 * (v.toNat % 16) + v.toNat / 16)) false := by
  rw [← append_nibbles_eq_ofNat]
  rfl

end Sys2Proof.Machine

namespace Sys2Proof.Claims

open Sys2Proof.Machine

theorem costOf_rot (op : RotOp) (l : Loc) : costOf (.rot op l) = kindCost l 2 4 := by
  cases l with
  | reg r => exact costOf_rotReg op r
  | atHL => exact costOf_rotAtHL op

theorem costOf_bit (n : BitVec 3) (l : Loc) : costOf (.bit n l) = kindCost l 2 3 := by
  cases l with
  | reg r => exact costOf_bitReg n r
  | atHL => exact costOf_bitAtHL n

theorem costOf_res (n : BitVec 3) (l : Loc) : costOf (.res n l) = kindCost l 2 4 := by
  cases l with
  | reg r => exact costOf_resReg n r
  | atHL => exact costOf_resAtHL n

theorem costOf_set (n : BitVec 3) (l : Loc) : costOf (.set n l) = kindCost l 2 4 := by
  cases l with
  | reg r => exact costOf_setReg n r
  | atHL => exact costOf_setAtHL n

theorem setFlags_shiftFlags_f (s : State) (result : Byte) (carry : Bool) :
    (s.setFlags (shiftFlags result carry)).f = shiftedFlags result carry := by
  rw [shiftedFlags, ← isZero_eq_decide_toNat]
  rfl

theorem setFlags_bitFlags_f (s : State) (n : BitVec 3) (v : Byte) :
    (s.setFlags (bitFlags n v)).f = flagByte (decide (v.toNat / 2 ^ n.toNat % 2 = 0)) false true s.fC := by
  rw [← not_getLsbD_eq_decide]
  rfl

/-- A location written leaves PC and the counter, so the end of the instruction counts from the old ones (R24). -/
theorem advance_atLoc (s : State) (l : Loc) (v : Byte) (len cost : Nat) :
    (atLoc l v s).1.advance len cost =
      { (atLoc l v s).1 with pc := s.pc + BitVec.ofNat 16 len, cycles := s.cycles + cost } := by
  cases l with
  | reg r => exact advance_setReg s r v len cost
  | atHL => rfl

section
variable {i : Instr} {s : State} {l : Loc} {result : Byte} {carry : Bool}

/-- An accumulator rotate keeps the primitive's result and carry, and clears the other flags (R127). -/
theorem runs_rotateA {f : Form} {bytes : List Byte} {r : Byte × FlagUpdate} (hi : i.form = f)
    (hbytes : encodeForm f = bytes) (hexec : execForm f s = rotateA r 1 s) (hr : r = shiftedTo result carry) :
    Runs i s bytes
      { s with a := result, f := flagByte false false false carry, pc := s.pc + 1#16, cycles := s.cycles + 1 } [] := by
  subst hr
  exact runs_setA (u := accumulatorRotateFlags (shiftFlags result carry)) hi hbytes rfl hexec

/-- An extended rotate or shift leaves its primitive's result and flags (R234). -/
theorem writesBack_of_rotate8 {op : RotOp} (hi : i.form = .rot op l)
    (hr : rotate8 op (s.readLoc l) s.fC = shiftedTo result carry) :
    WritesBack i s (0b00#2 ++ op.code ++ l.code) l result (shiftedFlags result carry) :=
  runs_writeLoc hi rfl (setFlags_shiftFlags_f s result carry)
    (by rw [execForm, rotateAt, hr, costOf_rot]; rfl)

/-- A two-byte instruction that updates a location and no flag. -/
theorem runs_writeLocKeepF {f : Form} {bytes : List Byte} {v : Byte} {cost : Nat} (hi : i.form = f)
    (hbytes : encodeForm f = bytes)
    (hexec : execForm f s = .next (((s.afterReadLoc l).writeLoc l v).advance 2 cost)) :
    Runs i s bytes { (atLoc l v s).1 with pc := s.pc + 2#16, cycles := s.cycles + cost } (atLoc l v s).2 := by
  have h := (becomes_writeLoc s l v).advance 2 cost
  rw [advance_atLoc] at h
  exact runs_of_form hi hbytes hexec h

end

/-- Settles O49: each is a primitive on the old A, with the flags but C cleared. -/
theorem accumulatorRotates : Obligations.AccumulatorRotates := by
  intro i s
  refine ⟨fun hi => ?rlca, fun hi => ?rrca, fun hi => ?rla, fun hi => ?rra⟩
  case rlca => exact runs_rotateA hi rfl (by rw [execForm, costOf_rlca]) (rlc8_eq s.a)
  case rrca => exact runs_rotateA hi rfl (by rw [execForm, costOf_rrca]) (rrc8_eq s.a)
  case rla => exact runs_rotateA hi rfl (by rw [execForm, costOf_rla]) (rl8_eq s.a s.fC)
  case rra => exact runs_rotateA hi rfl (by rw [execForm, costOf_rra]) (rr8_eq s.a s.fC)

/-- Settles O50: each is a primitive on the byte read, RL and RR with the old carry in. -/
theorem extendedRotates : Obligations.ExtendedRotates := by
  intro i s l
  refine ⟨fun hi => ?rlc, fun hi => ?rrc, fun hi => ?rl, fun hi => ?rr⟩
  case rlc => exact writesBack_of_rotate8 (op := .rlc) hi (rlc8_eq (s.readLoc l))
  case rrc => exact writesBack_of_rotate8 (op := .rrc) hi (rrc8_eq (s.readLoc l))
  case rl => exact writesBack_of_rotate8 (op := .rl) hi (rl8_eq (s.readLoc l) s.fC)
  case rr => exact writesBack_of_rotate8 (op := .rr) hi (rr8_eq (s.readLoc l) s.fC)

/-- Settles O51: each is a primitive on the byte read, without the old carry. -/
theorem extendedShifts : Obligations.ExtendedShifts := by
  intro i s l
  refine ⟨fun hi => ?sla, fun hi => ?sra, fun hi => ?swap, fun hi => ?srl⟩
  case sla => exact writesBack_of_rotate8 (op := .sla) hi (sla8_eq (s.readLoc l))
  case sra => exact writesBack_of_rotate8 (op := .sra) hi (sra8_eq (s.readLoc l))
  case swap => exact writesBack_of_rotate8 (op := .swap) hi (swap8_eq (s.readLoc l))
  case srl => exact writesBack_of_rotate8 (op := .srl) hi (srl8_eq (s.readLoc l))

/-- Settles O52: BIT reads its location and writes F alone; RES and SET update the location and leave F. -/
theorem bitTestResetAndSet : Obligations.BitTestResetAndSet := by
  intro i s n l
  simp only [← bitMask_eq_ofNat, ← setFlags_bitFlags_f]
  refine ⟨fun hi => ?bit, fun hi => ?res, fun hi => ?set⟩
  case bit =>
    exact runs_of_form hi rfl (by rw [execForm, testBit, costOf_bit]; rfl)
      (((becomes_afterSource s (.loc l)).setFlags _).advance 2 _)
  case res => exact runs_writeLocKeepF hi rfl (by rw [execForm, resetBit, costOf_res])
  case set => exact runs_writeLocKeepF hi rfl (by rw [execForm, setBit, costOf_set])

end Sys2Proof.Claims
end

section
/-! PROOF. Control transfer (46_control.md R260 to R271). A transfer is a push, a pop or no access, then one assignment
of PC; where its condition fails it is the sequential advance instead, with no access. So each conditional transfer is
its unconditional one under a condition, and one lemma says both halves. -/

namespace Sys2Proof.Machine

/-- A displacement counts from the instruction after the two-byte jump (R264). -/
theorem State.next_add_sext16 (s : State) (e8 : Byte) :
    s.next 2 + sext16 e8 = BitVec.ofInt 16 (s.pc.toNat + 2 + e8.toInt) := by
  rw [BitVec.ofInt_add, BitVec.ofInt_add, BitVec.ofInt_natCast, BitVec.ofNat_toNat, BitVec.setWidth_eq]
  rfl

/-- With IME set, a pending request is what the boundary delivers (R300 case 1). -/
theorem boundary_eq_deliver {s : State} {v : Word} (hcycles : s.cycles < Config.cycleLimit)
    (hpending : s.pending = some v) (hime : s.ime = true) : boundary s = .deliver v := by
  rw [boundary, if_neg (Nat.not_le.2 hcycles), hpending, hime]

end Sys2Proof.Machine

namespace Sys2Proof.Claims

open Sys2Proof.Machine

/-- Assigning PC updates what the machine becomes, and no access. -/
theorem Becomes.jump {s t post : State} {accesses : List Access} (h : Becomes s t post accesses) (target : Word)
    (cost : Nat) : Becomes s (t.jump target cost) (post.jump target cost) accesses := by
  obtain ⟨hrest, hbus, hstored⟩ := h
  exact ⟨congrArg (State.jump target cost) hrest, hbus, hstored⟩

/-- The word on top of the stack read and dropped (R22, R175). -/
theorem becomes_dropWord (s : State) : Becomes s s.dropWord { s with sp := s.sp + 2#16 } (wordReads s.sp) :=
  (becomes_afterReadWord s s.sp).update rfl rfl rfl

section
variable {i : Instr} {f : Form} {s : State} {bytes : List Byte} {target : Word} {cost : Nat}
  (hi : i.form = f) (hbytes : encodeForm f = bytes)
include hi hbytes

/-- A transfer that leaves the stack alone (R261, R263, R264). -/
theorem runs_jumpTo (hexec : execForm f s = jumpTo target cost s) :
    Runs i s bytes { s with pc := target, cycles := s.cycles + cost } [] :=
  runs_of_form hi hbytes hexec ((becomes_refl s).jump target cost)

/-- A transfer that pushes the address of the instruction after it, `len` bytes on (R266, R271). -/
theorem runs_callTo {len : Nat} (hexec : execForm f s = callTo target len cost s) :
    Runs i s bytes { s with sp := s.sp - 2#16, pc := target, cycles := s.cycles + cost }
      (wordStores (s.sp - 2#16) (s.pc + BitVec.ofNat 16 len)) :=
  runs_of_form hi hbytes hexec ((becomes_push s (s.next len)).jump target cost)

/-- A transfer to the word popped (R268). -/
theorem runs_returnTo (hexec : execForm f s = returnTo cost s) :
    Runs i s bytes { s with pc := s.readWord s.sp, sp := s.sp + 2#16, cycles := s.cycles + cost } (wordReads s.sp) :=
  runs_of_form hi hbytes hexec ((becomes_dropWord s).jump (s.readWord s.sp) cost)

/-- A conditional transfer is `transfer` where its condition holds, and goes to the next instruction without an access
where it does not (R262, R265, R267, R269). -/
theorem runs_ifCond {cc : Cond} {transfer : Result} {post : State} {accesses : List Access} {len : Nat}
    (hexec : execForm f s = if s.cond cc then transfer else .next (s.advance len cost))
    (htaken : execForm f s = transfer → Runs i s bytes post accesses) :
    (condHolds cc s → Runs i s bytes post accesses) ∧
    (¬condHolds cc s →
      Runs i s bytes { s with pc := s.pc + BitVec.ofNat 16 len, cycles := s.cycles + cost } []) := by
  rw [condHolds_iff]
  refine ⟨fun taken => htaken ?taken, fun notTaken => ?notTaken⟩
  case taken => rw [hexec, if_pos taken]
  case notTaken => exact runs_noAccess hi hbytes (by rw [hexec, if_neg notTaken]; rfl) rfl rfl

end

/-- A request pending at `RETI` is delivered at the boundary after it: the slot is kept and IME is set (R270, D4). -/
theorem boundary_of_exec_reti {i : Instr} {s t : State} {v : Word} (hi : i.form = .reti) (h : exec i s = .next t)
    (hpending : s.pending = some v) (hcycles : t.cycles < Config.cycleLimit) : boundary t = .deliver v := by
  have ht : t = returnFromInterrupt (costOf .reti) s := by
    rw [exec_eq_execForm, hi] at h
    exact (Host.Outcome.next.inj h).symm
  have hslot : t.pending = s.pending := by rw [ht, returnFromInterrupt_eq, State.afterReadWord_pending]
  exact boundary_eq_deliver hcycles (hslot.trans hpending) (by rw [ht, returnFromInterrupt_eq])

/-- Settles O54: the five forms assign PC alone, the conditional ones where their condition holds. -/
theorem jumps : Obligations.Jumps := by
  intro i s
  simp only [← imm16Bytes_eq_immBytes, ← State.next_add_sext16]
  refine ⟨fun a16 hi => ?jp, fun hi => ?jpHL, fun cc a16 hi => ?jpIf, fun e8 hi => ?jr, fun cc e8 hi => ?jrIf⟩
  case jp => exact runs_jumpTo hi rfl (by rw [execForm, costOf_jp])
  case jpHL => exact runs_jumpTo hi rfl (by rw [execForm, costOf_jpHL])
  case jpIf =>
    exact runs_ifCond hi rfl (by rw [execForm, jumpIf, costOf_jpIf, costNotTaken_jpIf]) (runs_jumpTo hi rfl)
  case jr => exact runs_jumpTo hi rfl (by rw [execForm, jumpRelative, costOf_jr, jumpTo])
  case jrIf =>
    exact runs_ifCond hi rfl (by rw [execForm, jumpRelativeIf, jumpRelative, costOf_jrIf, costNotTaken_jrIf, jumpTo])
      (runs_jumpTo hi rfl)

/-- Settles O55: a call pushes the address after itself, then jumps; one not taken only advances. -/
theorem callsAndRestarts : Obligations.CallsAndRestarts := by
  intro i s
  simp only [← imm16Bytes_eq_immBytes, ← restartTarget_eq_ofNat]
  refine ⟨fun a16 hi => ?call, fun cc a16 hi => ?callIf, fun t hi => ?rst⟩
  case call => exact runs_callTo hi rfl (by rw [execForm, costOf_call])
  case callIf =>
    exact runs_ifCond hi rfl (by rw [execForm, callIf, costOf_callIf, costNotTaken_callIf]) (runs_callTo hi rfl)
  case rst => exact runs_callTo hi rfl (by rw [execForm, restart, costOf_rst])

/-- Settles O56: each return pops PC, and `RETI` sets IME in the same step. -/
theorem returns : Obligations.Returns := by
  intro i s
  simp only [wordAt_eq_readWord]
  refine ⟨fun hi => ?ret, fun cc hi => ?retIf, fun hi => ⟨?reti, fun t v => ?delivered⟩⟩
  case ret => exact runs_returnTo hi rfl (by rw [execForm, costOf_ret])
  case retIf =>
    exact runs_ifCond hi rfl (by rw [execForm, returnIf, costOf_retIf, costNotTaken_retIf]) (runs_returnTo hi rfl)
  case reti =>
    exact runs_of_form hi rfl (by rw [execForm, returnEnabling, costOf_reti]) (becomes_returnFromInterrupt 4 s)
  case delivered => exact boundary_of_exec_reti hi

end Sys2Proof.Claims
end

section
/-! PROOF. The system instructions (47_misc_control.md R280 to R286). `NOP` and `DI` make no access; an undefined byte
is fetched alone and answers the fault; 0xCB with the byte after it is the extended instruction of that byte. -/

namespace Sys2Proof.Machine

/-- In a state that fetches, the boundary runs the instruction at PC (R300 cases 3 and 4). -/
theorem boundary_of_fetches {s : State} (h : s.fetches) : boundary s = .execute (fetchInstr s) := by
  obtain ⟨hcycles, hrequest, hhalted⟩ := h
  rw [boundary, if_neg (Nat.not_le.2 hcycles)]
  rcases hrequest with hpending | hime
  · simp [hpending, hhalted]
  · simp [hime, hhalted]

theorem step_of_fetches {s : State} (h : s.fetches) : step s = exec (fetchInstr s) (fetched s) := by
  rw [step, boundary_of_fetches h]

/-- The accesses of a step that fetches: the instruction's bytes, then its data (R56). -/
theorem stepAccesses_of_fetches {s : State} (h : s.fetches) :
    stepAccesses s = (fetchAddresses s).map .read ++ dataAccesses (fetchInstr s).form (fetched s) := by
  rw [stepAccesses, boundary_of_fetches h]

/-- With IME clear the slot does not matter to the choice at the boundary (R300, R311). -/
theorem boundary_of_ime_false {s : State} (hime : s.ime = false) :
    boundary s =
      if Config.cycleLimit ≤ s.cycles then .counterFull
      else if s.halted then .halted else .execute (fetchInstr s) := by
  rw [boundary, hime]
  cases s.pending <;> rfl

/-- Nothing is delivered while IME is clear (R300 case 1). -/
theorem boundary_ne_deliver {s : State} (hime : s.ime = false) (v : Word) : boundary s ≠ .deliver v := by
  rw [boundary_of_ime_false hime]
  split_ifs <;> nofun

/-- An instruction of one byte is read at PC alone (R80, R56). -/
theorem fetchAddresses_of_oneByte {s : State} (h : instrLength (s.readByte s.pc) = 1) : fetchAddresses s = [s.pc] := by
  rw [fetchAddresses, h]
  simp

/-- An instruction of one byte is decoded from that byte alone (R91). -/
theorem fetchInstr_of_oneByte {s : State} (h : instrLength (s.readByte s.pc) = 1) :
    fetchInstr s = decodeBytes (s.readByte s.pc) 0#8 0#8 := by
  rw [fetchInstr, fetchBytes, fetchAddresses_of_oneByte h]
  rfl

@[simp] theorem State.writeLoc_cycles (s : State) (l : Loc) (v : Byte) : (s.writeLoc l v).cycles = s.cycles := by
  cases l <;> simp [State.writeLoc]

/-- The extended form of a byte is encoded as 0xCB and that byte (R90, R91). -/
theorem encodeForm_extendedForm : ∀ ext : Byte, encodeForm (extendedForm ext) = [0xCB#8, ext] := by
  decide

/-- An extended form adds its cost of R94 to the counter. -/
theorem cycles_of_execForm_extendedForm {ext : Byte} {s t : State} (h : execForm (extendedForm ext) s = .next t) :
    t.cycles = s.cycles + costOf (extendedForm ext) := by
  rcases extendedForm_cases ext with ⟨_, _, e⟩ | ⟨_, _, e⟩ | ⟨_, _, e⟩ | ⟨_, _, e⟩ <;>
    rw [e] at h ⊢ <;> cases h <;> simp

/-- The three costs of R94. -/
theorem costOf_extendedForm_cases (ext : Byte) :
    costOf (extendedForm ext) = 2 ∨ costOf (extendedForm ext) = 3 ∨ costOf (extendedForm ext) = 4 := by
  have hcost : costOf (extendedForm ext) = Config.extendedCost ext := by
    rw [costOf, encodeForm_extendedForm]
    rfl
  rw [hcost, Config.extendedCost]
  split_ifs <;> decide

end Sys2Proof.Machine

namespace Sys2Proof.Claims

open Sys2Proof.Machine

/-- The constructors of undefined bytes carry the bytes of R89. -/
theorem mem_undefinedBytes_of_form {i : Instr} {opcode : Byte} (hi : i.form = .undefinedByte opcode) :
    opcode ∈ undefinedBytes := by
  cases i with
  | undefined_D3 | undefined_DB | undefined_DD | undefined_E3 | undefined_E4 | undefined_EB | undefined_EC
  | undefined_ED | undefined_F4 | undefined_FC | undefined_FD =>
    cases hi
    decide
  | _ => cases hi

/-- An undefined byte is fetched alone, and decodes to its own row (R89, R80; log 10). -/
theorem length_and_form_of_undefinedByte : ∀ b0 ∈ undefinedBytes,
    instrLength b0 = 1 ∧ (decodeBytes b0 0#8 0#8).form = .undefinedByte b0 := by
  decide

/-- Settles O57: neither makes an access, and with IME clear the boundary delivers nothing. -/
theorem nopAndDi : Obligations.NopAndDi := by
  intro i s
  refine ⟨fun hi => ?nop, fun hi => ⟨?di, fun t v h => ?notDelivered⟩⟩
  case nop => exact runs_noAccess hi rfl (by rw [execForm, noOperation, costOf_nop]; rfl) rfl rfl
  case di => exact runs_noAccess hi rfl (by rw [execForm, setInterruptEnable, costOf_di]; rfl) rfl rfl
  case notDelivered =>
    rw [exec_eq_execForm, hi] at h
    cases h
    exact boundary_ne_deliver rfl v

/-- Settles O11: the fetch reads byte 0 alone, and the fault's report is of the state before it. -/
theorem undefinedByteFaults : Obligations.UndefinedByteFaults := by
  refine ⟨fun i opcode s hi => ?exec, fun s hs hbyte => ?step⟩
  case exec => exact ⟨mem_undefinedBytes_of_form hi, by rw [encode, hi]; rfl, by rw [exec_eq_execForm, hi]; rfl⟩
  case step =>
    obtain ⟨hlen, hform⟩ := length_and_form_of_undefinedByte _ hbyte
    have haddr := fetchAddresses_of_oneByte hlen
    rw [← fetchInstr_of_oneByte hlen] at hform
    have hfetched : fetched s = { s with bus := seenBy s [.read s.pc] } := by
      rw [fetched_eq_seenBy, haddr]
      rfl
    have hstep : step s = .fault (.unknownOpcode (s.readByte s.pc) s.pc s.cycles) := by
      rw [step_of_fetches hs, exec_eq_execForm, hform, hfetched]
      rfl
    refine ⟨hstep, ?_, ?_⟩
    · rw [stateAfterStep, hstep, hfetched]
    · rw [stepAccesses_of_fetches hs, haddr, hform]
      rfl

/-- Settles O59: the bare prefix runs the form that its byte decodes to, whose bytes are 0xCB and that byte. -/
theorem prefixIsTheExtendedInstruction : Obligations.PrefixIsTheExtendedInstruction := by
  intro ext s
  have hexec : exec (.prefix_CB ext) s = execForm (extendedForm ext) s := runExtended_eq_execForm ext s
  refine ⟨rfl, ?wellFormed, ?encoding, rfl, ?meaning, ?completes⟩
  case wellFormed =>
    rw [Instr.wellFormed, form_decodeExtended]
    exact extendedForm_wellFormed ext
  case encoding =>
    rw [encode, encode, form_decodeExtended, encodeForm_extendedForm]
    rfl
  case meaning => rw [hexec, exec_eq_execForm, form_decodeExtended]
  case completes =>
    obtain ⟨t, ht⟩ := execForm_next (f := (Instr.prefix_CB ext).form) rfl s
    rw [← exec_eq_execForm] at ht
    have hcycles := cycles_of_execForm_extendedForm (hexec.symm.trans ht)
    have hcost := costOf_extendedForm_cases ext
    exact ⟨t, ht, programCounterIsAssignedOnce _ s t ht, by omega⟩

end Sys2Proof.Claims
end

section
/-! PROOF. Decoding and encoding (30_encoding.md R80 to R91). One fact about each cell of the grid says which bytes
encode the instruction it decodes to, and one about each instruction says that its own bytes decode to it. The rest
follows: a list is read from as many bytes as byte 0 asks for, and in one way. -/

namespace Sys2Proof.Claims

open Sys2Proof.Machine

/-- The bytes after byte 0 of an instruction of `len` bytes, by its immediates (R86). -/
def operandBytes (len : Nat) (imm8 : Byte) (imm16 : Word) : List Byte :=
  if len = 1 then [] else if len = 2 then [imm8] else imm16Bytes imm16

theorem encode_decodeExtended (ext : Byte) : encode (decodeExtended ext) = [0xCB#8, ext] := by
  rw [encode, form_decodeExtended, encodeForm_extendedForm]

theorem wellFormed_decodeExtended (ext : Byte) : (decodeExtended ext).wellFormed = true := by
  rw [Instr.wellFormed, form_decodeExtended]
  exact extendedForm_wellFormed ext

/-- Row Cx holds the one cell whose instruction the byte after byte 0 selects. -/
theorem encode_primaryRowC {lo : Nat} (hlo : lo < 16) (imm8 : Byte) (imm16 : Word) :
    encode (primaryRowC lo imm8 imm16) =
      BitVec.ofNat 8 (16 * 0xC + lo) :: operandBytes ((lengthRow 0xC).getD lo 1) imm8 imm16 := by
  interval_cases lo
  -- column xB: the byte after 0xCB selects
  pick_goal 12
  · exact encode_decodeExtended imm8
  all_goals rfl

theorem wellFormed_primaryRowC (lo : Nat) (imm8 : Byte) (imm16 : Word) :
    (primaryRowC lo imm8 imm16).wellFormed = true := by
  unfold primaryRowC
  split
  case h_12 => exact wellFormed_decodeExtended imm8
  all_goals rfl

/-- The bytes of the instruction in a cell of the grid: the cell's byte 0, then the immediates that its length leaves
room for (R88). -/
theorem encode_decodePrimary {hi lo : Nat} (hhi : hi < 16) (hlo : lo < 16) (imm8 : Byte) (imm16 : Word) :
    encode (decodePrimary hi lo imm8 imm16) =
      BitVec.ofNat 8 (16 * hi + lo) :: operandBytes ((lengthRow hi).getD lo 1) imm8 imm16 := by
  rcases lt_trichotomy hi 0xC with above | rfl | below
  · interval_cases hi <;> interval_cases lo <;> rfl
  · exact encode_primaryRowC hlo imm8 imm16
  · interval_cases hi <;> interval_cases lo <;> rfl

/-- No cell holds the bare 0xCB. -/
theorem wellFormed_decodePrimary {hi lo : Nat} (hhi : hi < 16) (hlo : lo < 16) (imm8 : Byte) (imm16 : Word) :
    (decodePrimary hi lo imm8 imm16).wellFormed = true := by
  rcases lt_trichotomy hi 0xC with above | rfl | below
  · interval_cases hi <;> interval_cases lo <;> rfl
  · exact wellFormed_primaryRowC lo imm8 imm16
  · interval_cases hi <;> interval_cases lo <;> rfl

theorem wellFormed_decodeBytes (b0 b1 b2 : Byte) : (decodeBytes b0 b1 b2).wellFormed = true := by
  have hb0 := b0.isLt
  exact wellFormed_decodePrimary (by omega) (by omega) b1 (joinBytes b2 b1)

/-- The lengths of the grid are 1, 2 and 3 (R80). -/
theorem instrLength_cases : ∀ b0 : Byte, instrLength b0 = 1 ∨ instrLength b0 = 2 ∨ instrLength b0 = 3 := by
  decide

/-- What three bytes decode to is encoded by as many of them as byte 0 asks for (R91). -/
theorem encode_decodeBytes (b0 b1 b2 : Byte) : encode (decodeBytes b0 b1 b2) = [b0, b1, b2].take (instrLength b0) := by
  have hb0 := b0.isLt
  have hbyte0 : BitVec.ofNat 8 (16 * (b0.toNat / 16) + b0.toNat % 16) = b0 := by
    rw [Nat.div_add_mod, BitVec.ofNat_toNat, BitVec.setWidth_eq]
  have hcell := encode_decodePrimary (hi := b0.toNat / 16) (lo := b0.toNat % 16) (by omega) (by omega) b1
    (joinBytes b2 b1)
  rw [hbyte0, ← instrLength] at hcell
  rw [decodeBytes, hcell]
  rcases instrLength_cases b0 with h | h | h <;> simp [h, operandBytes, imm16Bytes]

theorem length_encode_decodeBytes (b0 b1 b2 : Byte) : (encode (decodeBytes b0 b1 b2)).length = instrLength b0 := by
  rw [encode_decodeBytes, List.length_take]
  rcases instrLength_cases b0 with h | h | h <;> simp [h]

/-- The instruction that a list of bytes makes, zeros past its end: what a fetch decodes (R91). -/
def decodePadded (bytes : List Byte) : Instr := decodeBytes (bytes.getD 0 0#8) (bytes.getD 1 0#8) (bytes.getD 2 0#8)

theorem decodePadded_imm8 (b0 imm8 : Byte) :
    decodePadded [b0, imm8] = decodePrimary (b0.toNat / 16) (b0.toNat % 16) imm8 (joinBytes 0#8 imm8) := rfl

/-- A 16-bit immediate comes back from its halves (R86). -/
theorem decodePadded_imm16 (b0 : Byte) (imm16 : Word) :
    decodePadded (b0 :: imm16Bytes imm16) =
      decodePrimary (b0.toNat / 16) (b0.toNat % 16) (loByte imm16) imm16 := by
  rw [← joinBytes_hi_lo imm16, imm16Bytes, hiByte_joinBytes, loByte_joinBytes]
  rfl

/-- The bytes of an instruction decode to it (R81, R88): its cell of the grid is the pattern of its form. -/
theorem decodePadded_encode {i : Instr} (hi : i.wellFormed = true) : decodePadded (encode i) = i := by
  cases i with
  | prefix_CB => cases hi
  | ld_B_d8 | ld_C_d8 | ld_D_d8 | ld_E_d8 | ld_H_d8 | ld_L_d8 | ld_A_d8 | ld_atHL_d8 | stop | jr_e8 | jr_NZ_e8 | jr_Z_e8
  | jr_NC_e8 | jr_C_e8 | add_A_d8 | adc_A_d8 | sub_A_d8 | sbc_A_d8 | and_A_d8 | xor_A_d8 | or_A_d8 | cp_A_d8
  | ldh_ata8_A | ldh_A_ata8 | add_SP_e8 | ld_HL_SP_e8 =>
    rw [encode, Instr.form, encodeForm, decodePadded_imm8]
    rfl
  | ld_BC_d16 | ld_DE_d16 | ld_HL_d16 | ld_SP_d16 | ld_ata16_SP | ld_ata16_A | ld_A_ata16 | jp_a16 | jp_NZ_a16
  | jp_Z_a16 | jp_NC_a16 | jp_C_a16 | call_a16 | call_NZ_a16 | call_Z_a16 | call_NC_a16 | call_C_a16 =>
    rw [encode, Instr.form, encodeForm, decodePadded_imm16]
    rfl
  | _ => rfl

/-- Bytes past the length of byte 0 do not matter: what is decoded is the reading of its own bytes. -/
theorem decodeBytes_eq_decodePadded (b0 b1 b2 : Byte) :
    decodeBytes b0 b1 b2 = decodePadded ([b0, b1, b2].take (instrLength b0)) := by
  rw [← encode_decodeBytes, decodePadded_encode (wellFormed_decodeBytes b0 b1 b2)]

/-- The bytes of an instruction begin with its byte 0, and are as many as that byte asks for (R80). -/
theorem exists_encode_eq_cons {i : Instr} (hi : i.wellFormed = true) :
    ∃ b0 tail, encode i = b0 :: tail ∧ instrLength b0 = tail.length + 1 := by
  have hbytes := encode_decodeBytes ((encode i).getD 0 0#8) ((encode i).getD 1 0#8) ((encode i).getD 2 0#8)
  rw [← decodePadded, decodePadded_encode hi] at hbytes
  generalize (encode i).getD 0 0#8 = b0 at hbytes
  generalize (encode i).getD 1 0#8 = b1 at hbytes
  generalize (encode i).getD 2 0#8 = b2 at hbytes
  rcases instrLength_cases b0 with h | h | h
  · exact ⟨b0, [], by rw [hbytes, h]; rfl, h⟩
  · exact ⟨b0, [b1], by rw [hbytes, h]; rfl, h⟩
  · exact ⟨b0, [b1, b2], by rw [hbytes, h]; rfl, h⟩

/-- A list that is long enough decodes to the reading of its first bytes, and the others are left over (R91). -/
theorem decode_cons_of_length_le {b0 : Byte} {rest : List Byte} (h : instrLength b0 ≤ rest.length + 1) :
    decode (b0 :: rest) =
      .ok (decodeBytes b0 (rest.getD 0 0#8) (rest.getD 1 0#8), rest.drop (instrLength b0 - 1)) :=
  if_neg (Nat.not_lt.2 h)

theorem decode_cons_of_lt {b0 : Byte} {rest : List Byte} (h : rest.length + 1 < instrLength b0) :
    decode (b0 :: rest) = .error (.truncated b0) :=
  if_pos h

/-- Taking at most three bytes from a list that has them does not see what it is padded with. -/
theorem take_padded {n : Nat} (b0 : Byte) (rest : List Byte) (h : n = 1 ∨ n = 2 ∨ n = 3) (hn : n ≤ rest.length + 1) :
    [b0, rest.getD 0 0#8, rest.getD 1 0#8].take n = b0 :: rest.take (n - 1) := by
  rcases h with rfl | rfl | rfl
  · rfl
  · obtain ⟨b1, rest, rfl⟩ := List.exists_cons_of_length_pos (l := rest) (by omega)
    rfl
  · match rest, hn with
    | _ :: _ :: _, _ => rfl

/-- The inversion of `decode`: it answers the reading of the list's first bytes, which are the answer's encoding. -/
theorem decode_cons_eq_ok {b0 : Byte} {rest rest' : List Byte} {i : Instr} (h : decode (b0 :: rest) = .ok (i, rest')) :
    i = decodeBytes b0 (rest.getD 0 0#8) (rest.getD 1 0#8) ∧ encode i = b0 :: rest.take (instrLength b0 - 1) ∧
      rest' = rest.drop (instrLength b0 - 1) := by
  by_cases hlen : rest.length + 1 < instrLength b0
  · rw [decode_cons_of_lt hlen] at h
    cases h
  · have hle := Nat.not_lt.1 hlen
    rw [decode_cons_of_length_le hle] at h
    cases h
    exact ⟨rfl, by rw [encode_decodeBytes, take_padded b0 rest (instrLength_cases b0) hle], rfl⟩

/-- Settles O2: what is decoded is encoded by the bytes taken, and the bytes dropped are the rest. -/
theorem encodeOfDecodeIsTheBytes : Obligations.EncodeOfDecodeIsTheBytes := by
  intro bytes i rest h
  cases bytes with
  | nil => cases h
  | cons b0 tail =>
    obtain ⟨hi, hbytes, hrest⟩ := decode_cons_eq_ok h
    refine ⟨?bytes, ?wellFormed⟩
    case bytes => rw [hbytes, hrest, List.cons_append, List.take_append_drop]
    case wellFormed =>
      rw [hi]
      exact wellFormed_decodeBytes _ _ _

/-- Settles O1: the list has the length that byte 0 asks for, so it decodes to the reading of the instruction's own
bytes. -/
theorem decodeOfEncodeIsTheInstruction : Obligations.DecodeOfEncodeIsTheInstruction := by
  intro i rest hi
  obtain ⟨b0, tail, hbytes, hlen⟩ := exists_encode_eq_cons hi
  have hle : instrLength b0 ≤ (tail ++ rest).length + 1 := by
    rw [hlen, List.length_append]
    omega
  have hread : decodeBytes b0 ((tail ++ rest).getD 0 0#8) ((tail ++ rest).getD 1 0#8) = i := by
    rw [decodeBytes_eq_decodePadded, take_padded b0 _ (instrLength_cases b0) hle, hlen, Nat.add_sub_cancel,
      List.take_left, ← hbytes, decodePadded_encode hi]
  rw [hbytes, List.cons_append, decode_cons_of_length_le hle, hread, hlen, Nat.add_sub_cancel, List.drop_left]

/-- Settles O3: the one test that `decode` makes is on the list's length. -/
theorem decodeStopsOnlyOnShortInput : Obligations.DecodeStopsOnlyOnShortInput := by
  refine ⟨fun b0 => ?length, fun b0 rest h => ?long, fun b0 rest h => decode_cons_of_lt h, rfl⟩
  case length =>
    have := instrLength_cases b0
    omega
  case long => exact ⟨_, decode_cons_of_length_le h, length_encode_decodeBytes _ _ _⟩

-- The extended byte (R90)

/-- 0xCB and the byte after it are decoded together (R90). -/
theorem decode_extended (ext : Byte) (rest : List Byte) :
    decode (0xCB#8 :: ext :: rest) = .ok (decodeExtended ext, rest) := by
  have hlen : instrLength 0xCB#8 = 2 := rfl
  rw [decode_cons_of_length_le (by rw [hlen, List.length_cons]; omega), hlen]
  rfl

/-- `b[2:0]` is the code of the location it selects (R82). -/
theorem code_locOfCode : ∀ n : BitVec 3, (locOfCode n).code = n := by
  decide

/-- `b[5:3]` is the code of the rotate or shift it selects (R90). -/
theorem code_rotOfCode : ∀ n : BitVec 3, (rotOfCode n).code = n := by
  decide

/-- `b[7:6]` selects the group, as ranges of the byte (R90). -/
theorem toNat_group (b : Byte) : (b.extractLsb' 6 2).toNat = b.toNat / 64 := by
  have hb := b.isLt
  rw [BitVec.extractLsb'_toNat, Nat.shiftRight_eq_div_pow]
  exact Nat.mod_eq_of_lt (by omega)

theorem extractLsb'_3_3_eq_ofNat (b : Byte) : b.extractLsb' 3 3 = BitVec.ofNat 3 (b.toNat / 8) := by
  apply BitVec.eq_of_toNat_eq
  rw [BitVec.extractLsb'_toNat, Nat.shiftRight_eq_div_pow, BitVec.toNat_ofNat]

/-- The form of an extended byte, by the range of the byte (R90). -/
theorem extendedForm_eq_of_range (b : Byte) :
    (b.toNat < 0x40 → extendedForm b = .rot (rotOfCode (b.extractLsb' 3 3)) (locOfCode (b.extractLsb' 0 3))) ∧
    (0x40 ≤ b.toNat ∧ b.toNat < 0x80 →
      extendedForm b = .bit (b.extractLsb' 3 3) (locOfCode (b.extractLsb' 0 3))) ∧
    (0x80 ≤ b.toNat ∧ b.toNat < 0xC0 →
      extendedForm b = .res (b.extractLsb' 3 3) (locOfCode (b.extractLsb' 0 3))) ∧
    (0xC0 ≤ b.toNat → extendedForm b = .set (b.extractLsb' 3 3) (locOfCode (b.extractLsb' 0 3))) := by
  have hb := b.isLt
  have hgroup := toNat_group b
  refine ⟨fun h => ?rot, fun h => ?bit, fun h => ?res, fun h => ?set⟩
  case rot =>
    have hg : b.toNat / 64 = 0 := by omega
    simp only [extendedForm, hgroup, hg]
  case bit =>
    have hg : b.toNat / 64 = 1 := by omega
    simp only [extendedForm, hgroup, hg]
  case res =>
    have hg : b.toNat / 64 = 2 := by omega
    simp only [extendedForm, hgroup, hg]
  case set =>
    have hg : b.toNat / 64 = 3 := by omega
    simp only [extendedForm, hgroup, hg]

/-- Settles O4: the fields of the byte are the fields of its form. -/
theorem extendedByteSelectsOperation : Obligations.ExtendedByteSelectsOperation := by
  intro b rest
  obtain ⟨hrot, hbit, hres, hset⟩ := extendedForm_eq_of_range b
  rw [extractLsb'_3_3_eq_ofNat] at hbit hres hset
  refine ⟨decodeExtended b, decode_extended b rest, locOfCode (b.extractLsb' 0 3), ?location, ?_⟩
  case location =>
    rw [code_locOfCode, BitVec.extractLsb'_toNat, Nat.shiftRight_zero]
  rw [form_decodeExtended]
  refine ⟨fun h => ⟨_, ?operation, hrot h⟩, hbit, hres, hset⟩
  case operation =>
    rw [code_rotOfCode, BitVec.extractLsb'_toNat, Nat.shiftRight_eq_div_pow]

/-- Settles O6: each word is decoded by evaluation. -/
theorem sampleWordsDecode : Obligations.SampleWordsDecode :=
  ⟨rfl, rfl, rfl, rfl, rfl, rfl, rfl, rfl, rfl, rfl, rfl⟩

end Sys2Proof.Claims
end

section
/-! PROOF. The step boundary (60_exceptions.md R300 to R311). `step` follows `boundary`, so each case of the choice gets
one rule; a fetch reads as many bytes as byte 0 asks for, and decodes them as `decode` does. -/

namespace Sys2Proof.Machine

/-- At the bound of D1 nothing is chosen. -/
theorem boundary_of_cycleLimit_le {s : State} (h : Config.cycleLimit ≤ s.cycles) : boundary s = .counterFull :=
  if_pos h

/-- Without a deliverable request a halted core takes the halted step (R300 case 2). -/
theorem boundary_eq_halted {s : State} (hcycles : s.cycles < Config.cycleLimit)
    (hrequest : s.pending = none ∨ s.ime = false) (hhalted : s.halted = true) : boundary s = .halted := by
  rw [boundary, if_neg (Nat.not_le.2 hcycles)]
  rcases hrequest with hpending | hime
  · simp [hpending, hhalted]
  · simp [hime, hhalted]

/-- A request is deliverable when the slot is full and IME is set, and not otherwise. -/
theorem not_deliverable {s : State} (h : s.pending = none ∨ s.ime = false) (v : Word) :
    ¬(s.pending = some v ∧ s.ime = true) := by
  rintro ⟨hpending, hime⟩
  rcases h with hnone | hclear
  · cases hnone.symm.trans hpending
  · cases hclear.symm.trans hime

/-- Below the bound the three cases of R300 are all, and each is chosen by its own condition. -/
theorem boundary_cases {s : State} (hcycles : s.cycles < Config.cycleLimit) :
    (∃ v, s.pending = some v ∧ s.ime = true ∧ boundary s = .deliver v) ∨
    ((s.pending = none ∨ s.ime = false) ∧ s.halted = true ∧ boundary s = .halted) ∨
    ((s.pending = none ∨ s.ime = false) ∧ s.halted = false ∧ boundary s = .execute (fetchInstr s)) := by
  by_cases hrequest : s.pending = none ∨ s.ime = false
  · cases hhalted : s.halted with
    | true => exact .inr (.inl ⟨hrequest, rfl, boundary_eq_halted hcycles hrequest hhalted⟩)
    | false => exact .inr (.inr ⟨hrequest, rfl, boundary_of_fetches ⟨hcycles, hrequest, hhalted⟩⟩)
  · rw [not_or, Bool.not_eq_false] at hrequest
    obtain ⟨hpending, hime⟩ := hrequest
    obtain ⟨v, hv⟩ := Option.ne_none_iff_exists'.1 hpending
    exact .inl ⟨v, hv, hime, boundary_eq_deliver hcycles hv hime⟩

theorem step_eq_deliver {s : State} {v : Word} (hcycles : s.cycles < Config.cycleLimit) (hpending : s.pending = some v)
    (hime : s.ime = true) : step s = .next (deliver v s) := by
  rw [step, boundary_eq_deliver hcycles hpending hime]

theorem step_eq_haltedStep {s : State} (hcycles : s.cycles < Config.cycleLimit)
    (hrequest : s.pending = none ∨ s.ime = false) (hhalted : s.halted = true) : step s = .next (haltedStep s) := by
  rw [step, boundary_eq_halted hcycles hrequest hhalted]

/-- Every instruction but the undefined bytes answers a next state (R303). -/
theorem exec_next {i : Instr} (h : i.isUndefined = false) (s : State) : ∃ t, exec i s = .next t := by
  rw [exec_eq_execForm]
  exact execForm_next h s

/-- An instruction is a next state or, an undefined byte, a fault: nothing refuses. -/
theorem exec_ne_refused (i : Instr) (s : State) (why : Refusal) : exec i s ≠ .refused why := by
  cases hi : i.isUndefined with
  | false =>
    obtain ⟨t, ht⟩ := exec_next hi s
    rw [ht]
    nofun
  | true =>
    rw [exec_eq_execForm]
    rw [Instr.isUndefined] at hi
    cases hform : i.form with
    | undefinedByte opcode => nofun
    | _ =>
      rw [hform] at hi
      cases hi

/-- Below the bound no step is refused (R300). -/
theorem step_ne_refused {s : State} (hcycles : s.cycles < Config.cycleLimit) (why : Refusal) :
    step s ≠ .refused why := by
  rcases step_cases s with ⟨hfull, _⟩ | ⟨_, v, _, _, e⟩ | ⟨_, _, _, e⟩ | ⟨_, e⟩
  · omega
  · rw [e]
    nofun
  · rw [e]
    nofun
  · rw [e]
    exact exec_ne_refused _ _ why

/-- Reading fewer addresses reads fewer bytes, and the same ones. -/
theorem readInOrder_take (n : Nat) (xs : List Word) (s : State) :
    (readInOrder (xs.take n) s).1 = (readInOrder xs s).1.take n := by
  induction xs generalizing n s with
  | nil => simp [readInOrder]
  | cons a rest ih =>
    cases n with
    | zero => rfl
    | succ n => exact congrArg (s.readByte a :: ·) (ih n (s.afterRead a))

end Sys2Proof.Machine

namespace Sys2Proof.Claims

open Sys2Proof.Machine

/-- A fetch reads the first of the three addresses from PC on, as many as byte 0 asks for (R56, R80). -/
theorem fetchAddresses_eq_take (s : State) :
    fetchAddresses s = [s.pc, s.pc + 1#16, s.pc + 2#16].take (instrLength (s.readByte s.pc)) := by
  rw [fetchAddresses]
  rcases instrLength_cases (s.readByte s.pc) with h | h | h <;> simp [h, List.range_succ]

/-- The instruction fetched is what the three bytes from PC on decode to, read one after the other (R56, R91). -/
theorem fetchInstr_eq_decodeBytes (s : State) :
    fetchInstr s =
      decodeBytes (s.readByte s.pc) (readNext s [.read s.pc] (s.pc + 1#16))
        (readNext s [.read s.pc, .read (s.pc + 1#16)] (s.pc + 2#16)) := by
  rw [decodeBytes_eq_decodePadded, fetchInstr, ← decodePadded, fetchBytes, fetchAddresses_eq_take, readInOrder_take]
  simp only [readInOrder, readNext_read, readNext_nil]

/-- Settles O7: the bytes that `decode` reads are those the fetch reads, and it leaves devices the same reads. -/
theorem stepRunsTheDecodedInstruction : Obligations.StepRunsTheDecodedInstruction := by
  intro s i rest b1 b2 reads hs hdecode
  have hi : i = decodeBytes (s.readByte s.pc) b1 b2 := (decode_cons_eq_ok hdecode).1
  have hfetch : fetchInstr s = i := (fetchInstr_eq_decodeBytes s).trans hi.symm
  have hlen : (encode i).length = instrLength (s.readByte s.pc) := by rw [hi, length_encode_decodeBytes]
  refine ⟨?wellFormed, hfetch, ?step⟩
  case wellFormed =>
    rw [hi]
    exact wellFormed_decodeBytes _ _ _
  case step =>
    rw [step_of_fetches hs, hfetch, fetched_eq_seenBy, fetchAddresses_eq_take, List.map_take, ← hlen]
    rfl

/-- Settles O8: each case of `boundary` has the condition that R300 gives it, and no condition is met twice. -/
theorem stepChoosesInOrder : Obligations.StepChoosesInOrder := by
  intro s
  refine ⟨fun hfull => ?full, fun hcycles => ?below⟩
  case full => rw [step, boundary_of_cycleLimit_le hfull]
  case below =>
    rcases boundary_cases hcycles with ⟨w, hpending, hime, e⟩ | ⟨hrequest, hhalted, e⟩ | ⟨hrequest, hhalted, e⟩ <;>
      rw [e]
    · have hdeliverable : ¬(s.pending = none ∨ s.ime = false) := by simp [hpending, hime]
      refine ⟨fun v => ?_, ?_, fun i => ?_, step_ne_refused hcycles⟩
      · simp [hpending, hime]
      · exact iff_of_false nofun fun h => hdeliverable h.2
      · exact iff_of_false nofun fun h => hdeliverable h.2.1
    · refine ⟨fun v => ?_, ?_, fun i => ?_, step_ne_refused hcycles⟩
      · exact iff_of_false nofun (not_deliverable hrequest v)
      · exact iff_of_true rfl ⟨hhalted, hrequest⟩
      · exact iff_of_false nofun (by simp [hhalted])
    · refine ⟨fun v => ?_, ?_, fun i => ?_, step_ne_refused hcycles⟩
      · exact iff_of_false nofun (not_deliverable hrequest v)
      · exact iff_of_false nofun (by simp [hhalted])
      · rw [Boundary.execute.injEq, eq_comm]
        exact ⟨fun h => ⟨hhalted, hrequest, h⟩, fun h => h.2.2⟩

/-- Settles O10: the boundary is the halted step, for which no access is listed. -/
theorem haltedStepOnlyCounts : Obligations.HaltedStepOnlyCounts := by
  intro s hcycles hhalted hrequest
  have hstep := step_eq_haltedStep hcycles hrequest hhalted
  refine ⟨hstep, ?accesses, ?reply⟩
  case accesses => rw [stepAccesses, boundary_eq_halted hcycles hrequest hhalted]
  case reply =>
    rw [stepReply, hstep]
    exact congrArg StepReply.ok (Nat.add_sub_cancel_left s.cycles 1)

/-- Settles O12: a step that faults has run an instruction with no next state, which is an undefined byte at PC. -/
theorem onlyUndefinedBytesFault : Obligations.OnlyUndefinedBytesFault := by
  refine ⟨fun s r h => ?fault, fun i s hi => exec_next hi s⟩
  rcases step_cases s with ⟨_, e⟩ | ⟨_, v, _, _, e⟩ | ⟨_, _, _, e⟩ | ⟨hs, e⟩
  · cases e.symm.trans h
  · cases e.symm.trans h
  · cases e.symm.trans h
  · have hundefined : (fetchInstr s).isUndefined = true := by
      by_contra hdefined
      obtain ⟨t, ht⟩ := exec_next (Bool.eq_false_iff.2 hdefined) (fetched s)
      cases (e.trans ht).symm.trans h
    rw [fetchInstr_eq_decodeBytes] at hundefined
    have hbyte : s.readByte s.pc ∈ undefinedBytes := (elevenBytesAreUndefined.2 _ _ _).1 hundefined
    obtain ⟨hfault, -, -⟩ := undefinedByteFaults.2 s hs hbyte
    exact ⟨hs, hbyte, Host.Outcome.fault.inj (h.symm.trans hfault)⟩

/-- Running on from a step that answers a next state. -/
theorem run_succ_of_next {M : Host.Core} {n : Nat} {s t : M.State} (h : M.step s = .next t) :
    M.run (n + 1) s = M.run n t := by
  rw [Host.Core.run, h]

/-- One step of a hang (R311). -/
theorem step_of_hung {s : State} (h : s.hung = true) (hcycles : s.cycles < Config.cycleLimit) :
    step s = .next { s with cycles := s.cycles + 1 } := by
  rw [State.hung, Bool.and_eq_true, Bool.not_eq_true'] at h
  exact step_eq_haltedStep hcycles (.inr h.2) h.1

/-- Settles O17, by induction on the number of steps: a halted step leaves the core hung. -/
theorem haltedWithInterruptsDisabledIsForEver : Obligations.HaltedWithInterruptsDisabledIsForEver := by
  intro n
  induction n with
  | zero => exact fun _ _ _ => rfl
  | succ n ih =>
    intro s hhung hcycles
    have hstep : core.step s = .next { s with cycles := s.cycles + 1 } := step_of_hung hhung (by omega)
    have hrest := ih { s with cycles := s.cycles + 1 } hhung (by rw [Nat.add_assoc, Nat.add_comm 1]; exact hcycles)
    rw [Nat.add_assoc, Nat.add_comm 1] at hrest
    exact (run_succ_of_next (M := core) hstep).trans hrest

end Sys2Proof.Claims
end

section
/-! PROOF. Interrupts over one step and two (60_exceptions.md R305 to R317). A delivery is one push, `EI` and `RETI` are
one-byte instructions; what two steps in a row become joins what each becomes, where one of them only reads. -/

namespace Sys2Proof.Machine

/-- A step that fetches one byte runs the instruction of that byte, once the byte is read (R56). -/
theorem step_of_oneByte {s : State} {b0 : Byte} (hs : s.fetches) (hbyte : s.readByte s.pc = b0)
    (hlen : instrLength b0 = 1) : step s = exec (decodeBytes b0 0#8 0#8) (s.afterRead s.pc) := by
  subst hbyte
  rw [step_of_fetches hs, fetchInstr_of_oneByte hlen, fetched, fetchAddresses_of_oneByte hlen]
  rfl

/-- A word in RAM is its two bytes of storage: no device answers by the first read. -/
theorem State.readWord_of_ram {s : State} {a : Word} (h : s.kind a = .ram) (h' : s.kind (a + 1#16) = .ram) :
    s.readWord a = joinBytes (s.stored (a + 1#16)) (s.stored a) := by
  rw [State.readWord, State.afterRead_of_ram h, State.readByte_of_ram h, State.readByte_of_ram h']

/-- The word read back over itself leaves RAM as it was. -/
theorem State.stored_writeWord_readWord {s : State} {a : Word} (h : s.kind a = .ram) (h' : s.kind (a + 1#16) = .ram)
    (x : Word) : (s.writeWord a (s.readWord a)).stored x = s.stored x := by
  rw [State.stored_writeWord, State.readWord_of_ram h h', hiByte_joinBytes, loByte_joinBytes]
  split_ifs with hhigh hlow
  · rw [hhigh.2]
  · rw [hlow.2]
  · rfl

/-- A delivery leaves the map (R308). -/
theorem kind_deliver (v : Word) (s : State) (x : Word) : (deliver v s).kind x = s.kind x := by
  unfold State.kind
  rfl

/-- With the stack in RAM, the word on top of it after a delivery is the PC saved, whatever a device has seen read. -/
theorem readWord_afterRead_deliver {s : State} (h : s.kind (s.sp - 2#16) = .ram)
    (h' : s.kind (s.sp - 2#16 + 1#16) = .ram) (v a : Word) :
    ((deliver v s).afterRead a).readWord (s.sp - 2#16) = s.pc := by
  have hkind (x : Word) : ((deliver v s).afterRead a).kind x = s.kind x := by
    rw [State.kind_afterRead, kind_deliver]
  rw [← State.readWord_push s h h' s.pc, State.readWord_of_ram (by rwa [hkind]) (by rwa [hkind]),
    State.readWord_of_ram (by rwa [State.kind_push]) (by rwa [State.kind_push])]
  rfl

end Sys2Proof.Machine

namespace Sys2Proof.Claims

open Sys2Proof.Machine

/-- A device sees the opcode read, and nothing else changes (R56). -/
theorem seenBy_read_eq_afterRead (s : State) (a : Word) : { s with bus := seenBy s [.read a] } = s.afterRead a := by
  rw [seenBy_read]
  rfl

/-- After reads alone, storage is as before and devices have seen those to their addresses. -/
theorem becomes_of_reads {s post : State} {xs : List Access} (hmem : post.mem = s.mem)
    (hreads : ∀ x ∈ xs, ramStore s x = none) : Becomes s { post with bus := seenBy s xs } post xs := by
  refine ⟨rfl, rfl, fun x => ?_⟩
  rw [storedAfter, List.filterMap_eq_nil_iff.2 hreads]
  exact congrArg (Memory.read · x.toNat) hmem

theorem ramStore_read_cons_wordReads (s : State) (a b : Word) :
    ∀ x ∈ Access.read a :: wordReads b, ramStore s x = none := by
  simp [wordReads, ramStore]

/-- A step that fetches `EI` (R284). -/
theorem step_of_ei {s : State} (hs : s.fetches) (hbyte : s.readByte s.pc = 0xFB#8) :
    step s = .next
      { s with ime := true, pc := s.pc + 1#16, cycles := s.cycles + 1, bus := seenBy s [.read s.pc] } := by
  have hform : (decodeBytes 0xFB#8 0#8 0#8).form = .ei := rfl
  rw [step_of_oneByte hs hbyte rfl, ← seenBy_read_eq_afterRead, exec_eq_execForm, hform, execForm, setInterruptEnable,
    costOf_ei]
  rfl

/-- A step that fetches `RETI` (R270). -/
theorem step_of_reti {s : State} (hs : s.fetches) (hbyte : s.readByte s.pc = 0xD9#8) :
    step s = .next
      { s with
        ime := true, sp := s.sp + 2#16, pc := (s.afterRead s.pc).readWord s.sp, cycles := s.cycles + 4,
        bus := seenBy s (.read s.pc :: wordReads s.sp) } := by
  have hbus : ((s.afterRead s.pc).afterReadWord s.sp).bus = seenBy s (.read s.pc :: wordReads s.sp) := by
    rw [seenBy_read]
    exact (becomes_afterReadWord _ _).2.1
  have hform : (decodeBytes 0xD9#8 0#8 0#8).form = .reti := rfl
  rw [step_of_oneByte hs hbyte rfl, exec_eq_execForm, hform, execForm, returnEnabling, costOf_reti,
    returnFromInterrupt_eq, ← hbus]
  rfl

/-- What `RETI` fetched at `a` becomes, wherever it pops its target from (R270). -/
theorem becomes_reti (s : State) (a target : Word) :
    Becomes s
      { s with
        ime := true, sp := s.sp + 2#16, pc := target, cycles := s.cycles + 4,
        bus := seenBy s (.read a :: wordReads s.sp) }
      { s with ime := true, sp := s.sp + 2#16, pc := target, cycles := s.cycles + 4 } (.read a :: wordReads s.sp) :=
  becomes_of_reads (post := { s with ime := true, sp := s.sp + 2#16, pc := target, cycles := s.cycles + 4 }) rfl
    (ramStore_read_cons_wordReads s a s.sp)

/-- Settles O9: the boundary delivers, and a delivery becomes what R308 says. -/
theorem deliveryEntersTheHandler : Obligations.DeliveryEntersTheHandler := by
  intro s v hcycles hpending hime
  exact ⟨deliver v s, step_eq_deliver hcycles hpending hime, becomes_deliver v s⟩

/-- Settles O13: the request is by cases on the slot. -/
theorem requestFillsTheEmptySlot : Obligations.RequestFillsTheEmptySlot := by
  intro s v
  refine ⟨fun hempty => ?empty, fun w hfull => ?full⟩
  case empty => rw [requestInterrupt, hempty]
  case full => rw [requestInterrupt, hfull]

/-- Settles O14: after `EI` the boundary delivers, and the two steps join. -/
theorem requestDeliveredRightAfterEi : Obligations.RequestDeliveredRightAfterEi := by
  intro s v hs hcycles hbyte hpending
  have hreads : ∀ x ∈ [Access.read s.pc], ramStore s x = none := by simp [ramStore]
  have ⟨_, _, hhalted⟩ := hs
  have hfirst := becomes_of_reads (s := s) (post := { s with ime := true, pc := s.pc + 1#16, cycles := s.cycles + 1 })
    rfl hreads
  refine ⟨_, _, step_of_ei hs hbyte, step_eq_deliver hcycles hpending rfl,
    hfirst.trans (becomes_deliver v _) rfl (.inl hreads) ?_⟩
  rw [hhalted]
  rfl

/-- Settles O15: the word that `RETI` pops is the word that the delivery pushes, at the same address. -/
theorem retiWithPendingReentersTheHandler : Obligations.RetiWithPendingReentersTheHandler := by
  intro s v hs hcycles hbyte hpending
  have hsp : s.sp + 2#16 - 2#16 = s.sp := BitVec.add_sub_cancel s.sp 2#16
  have ⟨_, _, hhalted⟩ := hs
  have hboth := (becomes_reti s s.pc ((s.afterRead s.pc).readWord s.sp)).trans (becomes_deliver v _)
    (post := { s with pc := v, ime := false, pending := none, cycles := s.cycles + 4 }) rfl
    (.inl (ramStore_read_cons_wordReads s s.pc s.sp)) (by rw [hhalted]; simp only [hsp]; rfl)
  simp only [hsp] at hboth
  refine ⟨_, _, step_of_reti hs hbyte, step_eq_deliver hcycles hpending rfl, rfl, ?pc, hboth, fun h h' x => ?stored⟩
  case pc => rw [seenBy_read_eq_afterRead, wordAt_eq_readWord]
  case stored =>
    obtain ⟨-, -, hstored⟩ := hboth
    rw [hstored, wordReads, List.cons_append, List.cons_append, List.cons_append, List.nil_append, storedAfter_read,
      storedAfter_read, storedAfter_read, storedAfter_wordStores]
    exact State.stored_writeWord_readWord (s := s.afterRead s.pc) h h' x

/-- Settles O16: RAM gives back the PC that the delivery pushed, so `RETI` goes back to it. -/
theorem deliveryThenRetiComesBack : Obligations.DeliveryThenRetiComesBack := by
  intro s v hcycles hpending hime hbyte hv hv' hram hram'
  have hsucc : s.sp - 2#16 + 1#16 = s.sp - 1#16 := by bv_omega
  have hsp : s.sp - 2#16 + 2#16 = s.sp := BitVec.sub_add_cancel s.sp 2#16
  rw [← hsucc] at hv' hram'
  have hbelow : s.cycles < Config.cycleLimit := by omega
  have hhandler : (deliver v s).readByte v = 0xD9#8 := by
    rw [State.readByte_deliver, State.readByte_push s hram hram', if_neg hv', if_neg hv]
    exact hbyte
  have hfetches : (deliver v s).fetches := ⟨hbelow, .inl rfl, rfl⟩
  have hpopped : ((deliver v s).afterRead (deliver v s).pc).readWord (deliver v s).sp = s.pc :=
    readWord_afterRead_deliver hram hram' v v
  have hsecond := step_of_reti hfetches hhandler
  rw [hpopped] at hsecond
  refine ⟨_, _, step_eq_deliver hbelow hpending hime, hsecond,
    (becomes_deliver v s).trans (becomes_reti (deliver v s) v s.pc) rfl
      (.inr (ramStore_read_cons_wordReads s v (s.sp - 2#16))) ?_⟩
  have hspAfter : (deliver v s).sp + 2#16 = s.sp := hsp
  rw [hspAfter, hime]
  rfl

end Sys2Proof.Claims
end

section
/-! PROOF. Reset, the instructions that write control state alone, and the memory map (10_state.md R35,
47_misc_control.md R281 to R284, 20_memory.md R58). None of these goes beyond one definition and its laws. -/

namespace Sys2Proof.Claims

open Sys2Proof.Machine

/-- Settles O18: the values are read off the definitions. -/
theorem resetValues : Obligations.ResetValues :=
  ⟨rfl, rfl, rfl, rfl, rfl, rfl, rfl, rfl, rfl, rfl, rfl, rfl, rfl, fun _ => rfl⟩

/-- Settles O58: `HALT` and `EI` write one control bit each, `STOP` none, and no access is made. -/
theorem haltStopAndEi : Obligations.HaltStopAndEi := by
  intro i s
  refine ⟨fun hi => ?halt, fun ignored hi => ?stop, fun hi => ?ei⟩
  case halt => exact runs_noAccess hi rfl (by rw [execForm, haltCore, costOf_halt]; rfl) rfl rfl
  case stop => exact runs_noAccess hi rfl (by rw [execForm, noOperation, costOf_stop]; rfl) rfl rfl
  case ei => exact runs_noAccess hi rfl (by rw [execForm, setInterruptEnable, costOf_ei]; rfl) rfl rfl

/-- A window holds the addresses less than its size above its base, counted past the wrap. -/
theorem holds_iff (r : Region) (a : Word) :
    Region.holds r a = true ↔ (a.toNat + 65536 - r.base.toNat) % 65536 < r.size := by
  have hsub : (a - r.base).toNat = (a.toNat + 65536 - r.base.toNat) % 65536 := by
    have := r.base.isLt
    rw [BitVec.toNat_sub]
    congr 1
    omega
  rw [Region.holds, decide_eq_true_iff, hsub]

/-- The first window that holds an address says what is there (D14). -/
theorem kind_of_map_cons {s : State} {r : Region} {rest : List Region} (hmap : s.map = r :: rest) (a : Word) :
    s.kind a = if (a.toNat + 65536 - r.base.toNat) % 65536 < r.size then r.kind
      else ({ s with map := rest } : State).kind a := by
  rw [State.kind, hmap, mapKind]
  simp only [holds_iff]
  rfl

/-- Settles O60: an access is by cases on what the map has at its address. -/
theorem interfaceFollowsTheMap : Obligations.InterfaceFollowsTheMap := by
  refine ⟨fun s a hmap => ?noWindow, fun s r rest a hmap => kind_of_map_cons hmap a, fun s a v => ⟨?ram, ?rom, ?device⟩⟩
  case noWindow =>
    rw [State.kind, hmap]
    rfl
  case ram =>
    intro h
    refine ⟨?same, fun x hx => ?other, ?frame, State.afterRead_of_ram h, State.readByte_of_ram h⟩
    case same => rw [State.readByte_writeByte s h, if_pos rfl]
    case other => rw [State.readByte_writeByte s h, if_neg hx]
    case frame => rw [State.writeByte_of_ram h]
  case rom =>
    intro h
    have hdevice : s.kind a ≠ .device := by simp [h]
    exact ⟨State.writeByte_of_rom h v, State.afterRead_of_not_device hdevice, State.readByte_of_not_device hdevice⟩
  case device =>
    intro h
    exact ⟨State.readByte_of_device h, by rw [State.afterRead, if_pos h], State.writeByte_of_device h v⟩

end Sys2Proof.Claims
end

section
/-! PROOF. The control state after an instruction and after a step (10_state.md R29 to R33, 60_exceptions.md R319). One
lemma says it of every form: the counter moves by the form's charge, IME and `halted` are written by the forms that R29
and R30 name, the slot and the map are left. -/

namespace Sys2Proof.Machine

@[simp] theorem State.writeLoc_ime (s : State) (l : Loc) (v : Byte) : (s.writeLoc l v).ime = s.ime := by
  cases l <;> simp [State.writeLoc]

@[simp] theorem State.writeLoc_halted (s : State) (l : Loc) (v : Byte) : (s.writeLoc l v).halted = s.halted := by
  cases l <;> simp [State.writeLoc]

@[simp] theorem State.writeLoc_pending (s : State) (l : Loc) (v : Byte) : (s.writeLoc l v).pending = s.pending := by
  cases l <;> simp [State.writeLoc]

@[simp] theorem State.writeLoc_map (s : State) (l : Loc) (v : Byte) : (s.writeLoc l v).map = s.map := by
  cases l <;> simp [State.writeLoc]

@[simp] theorem returnFromInterrupt_cycles (cost : Nat) (s : State) :
    (returnFromInterrupt cost s).cycles = s.cycles + cost := by
  rw [returnFromInterrupt_eq]

@[simp] theorem returnFromInterrupt_ime (cost : Nat) (s : State) : (returnFromInterrupt cost s).ime = true := by
  rw [returnFromInterrupt_eq]

@[simp] theorem returnFromInterrupt_halted (cost : Nat) (s : State) :
    (returnFromInterrupt cost s).halted = s.halted := by
  rw [returnFromInterrupt_eq, State.afterReadWord_halted]

@[simp] theorem returnFromInterrupt_pending (cost : Nat) (s : State) :
    (returnFromInterrupt cost s).pending = s.pending := by
  rw [returnFromInterrupt_eq, State.afterReadWord_pending]

@[simp] theorem returnFromInterrupt_map (cost : Nat) (s : State) : (returnFromInterrupt cost s).map = s.map := by
  rw [returnFromInterrupt_eq, State.afterReadWord_map]

/-- Whether a form's conditional transfer is taken; true for every other form. -/
def takenForm (f : Form) (s : State) : Bool :=
  match f with
  | .jpIf cc _ | .jrIf cc _ | .callIf cc _ | .retIf cc => s.cond cc
  | _ => true

theorem taken_eq_takenForm (i : Instr) (s : State) : taken i s = takenForm i.form s := by
  unfold taken takenForm
  cases i.form <;> rfl

/-- What a form adds to the counter: its cost, or for a transfer not taken the lower one. -/
def chargeOf (f : Form) (s : State) : Nat := if takenForm f s then costOf f else costNotTaken f

/-- The charge is the table's entry for the form's bytes (R88, R94). -/
theorem tableCost_eq_chargeOf (f : Form) (s : State) :
    Config.tableCost (encodeForm f) (takenForm f s) = chargeOf f s := by
  cases h : takenForm f s <;> simp [chargeOf, h, costOf, costNotTaken]

/-- The bare 0xCB costs what its extended form costs: they have the same bytes. -/
theorem costOf_prefixed (ext : Byte) : costOf (.prefixed ext) = costOf (extendedForm ext) := by
  rw [costOf, costOf, encodeForm_extendedForm]
  rfl

/-- An extended form is no conditional transfer. -/
theorem chargeOf_extendedForm (ext : Byte) (s : State) : chargeOf (extendedForm ext) s = costOf (extendedForm ext) := by
  rcases extendedForm_cases ext with ⟨_, _, e⟩ | ⟨_, _, e⟩ | ⟨_, _, e⟩ | ⟨_, _, e⟩ <;> rw [e] <;> rfl

/-- The control state and the map after an instruction of form `f` from `s`. -/
structure ControlAfter (f : Form) (s t : State) : Prop where
  cycles : t.cycles = s.cycles + chargeOf f s
  ime : t.ime = if f = .ei ∨ f = .reti then true else if f = .di then false else s.ime
  halted : t.halted = if f = .halt then true else s.halted
  pending : t.pending = s.pending
  map : t.map = s.map

theorem controlAfter_of_wellFormed {f : Form} {s t : State} (hf : f.wellFormed = true) (h : execForm f s = .next t) :
    ControlAfter f s t := by
  cases f with
  | prefixed ext => cases hf
  | undefinedByte opcode => cases h
  | ldRegReg | ldRegImm | ldRegAtHL | ldAtHLReg | ldAtHLImm | ldAAtBC | ldAAtDE | ldAtBCA | ldAtDEA
  | ldAAtAbs | ldAtAbsA | ldhAAt | ldhAtA | ldAAtC | ldAtCA | ldAtHLIncA | ldAtHLDecA | ldAAtHLInc | ldAAtHLDec
  | ldPairImm | ldAtAbsSP | ldSPHL
  | ldHLSPPlus | push | pop | incLoc | decLoc | daa | cpl | scf | ccf | addHL | incPair | decPair | addSP | rlca | rrca
  | rla | rra | rot | bit | res | set | jp | jpHL | jr | call | ret | reti | rst | nop | halt | stop | di | ei =>
    cases h
    constructor <;> simp [chargeOf, takenForm]
  | alu op src =>
    cases op with
    | add | adc | sub | sbc | and | xor | or | cp =>
      cases h
      constructor <;> simp [chargeOf, takenForm]
  | jpIf | jrIf | callIf | retIf =>
    simp only [execForm, jumpIf, jumpRelativeIf, callIf, returnIf] at h
    split at h
    next taken =>
      cases h
      constructor <;> simp [chargeOf, takenForm, taken]
    next notTaken =>
      cases h
      constructor <;> simp [chargeOf, takenForm, notTaken]

/-- Every form leaves the control state so; the bare 0xCB as its extended form does. -/
theorem controlAfter {f : Form} {s t : State} (h : execForm f s = .next t) : ControlAfter f s t := by
  rcases prefixed_or_wellFormed f with ⟨ext, rfl⟩ | hf
  · rw [execForm, runExtended_eq_execForm] at h
    obtain ⟨hcycles, hime, hhalted, hpending, hmap⟩ := controlAfter_of_wellFormed (extendedForm_wellFormed ext) h
    rw [chargeOf_extendedForm, ← costOf_prefixed] at hcycles
    refine ⟨hcycles, hime.trans ?_, hhalted.trans ?_, hpending, hmap⟩
    all_goals
      rcases extendedForm_cases ext with ⟨_, _, e⟩ | ⟨_, _, e⟩ | ⟨_, _, e⟩ | ⟨_, _, e⟩ <;> rw [e] <;> rfl
  · exact controlAfter_of_wellFormed hf h

/-- The costs of the table are 1 to 6, but at the undefined bytes (R88, R94). -/
theorem costOf_bounds {f : Form} (h : f.isUndefined = false) : 1 ≤ costOf f ∧ costOf f ≤ 6 := by
  cases f with
  | undefinedByte opcode => cases h
  | prefixed ext =>
    have := costOf_prefixed ext
    have := costOf_extendedForm_cases ext
    omega
  | incLoc l | decLoc l | rot _ l | bit _ l | res _ l | set _ l => cases l <;> simp
  | alu op src =>
    rcases src with (_ | _) | _ <;> simp
  | _ => simp

theorem chargeOf_bounds {f : Form} (h : f.isUndefined = false) (s : State) : 1 ≤ chargeOf f s ∧ chargeOf f s ≤ 6 := by
  cases htaken : takenForm f s with
  | true =>
    rw [chargeOf, htaken, if_pos rfl]
    exact costOf_bounds h
  | false =>
    rw [chargeOf, htaken, if_neg Bool.false_ne_true]
    cases f with
    | jpIf | jrIf | callIf | retIf => simp
    | _ => cases htaken

/-- An instruction that answers a next state is no undefined byte (R286). -/
theorem isUndefined_of_next {f : Form} {s t : State} (h : execForm f s = .next t) : f.isUndefined = false := by
  cases f with
  | undefinedByte opcode => cases h
  | _ => rfl

end Sys2Proof.Machine

namespace Sys2Proof.Claims

open Sys2Proof.Machine

theorem controlAfter_of_exec {i : Instr} {s t : State} (h : exec i s = .next t) : ControlAfter i.form s t := by
  rw [exec_eq_execForm] at h
  exact controlAfter h

theorem eq_deliver_of_boundary {s t : State} {v : Word} (hb : boundary s = .deliver v) (h : step s = .next t) :
    t = deliver v s := by
  rw [step, hb] at h
  exact (Host.Outcome.next.inj h).symm

theorem eq_haltedStep_of_boundary {s t : State} (hb : boundary s = .halted) (h : step s = .next t) :
    t = haltedStep s := by
  rw [step, hb] at h
  exact (Host.Outcome.next.inj h).symm

/-- Settles O24: an instruction adds its form's charge, which is the table's entry for its bytes. -/
theorem everyStepChargesItsCost : Obligations.EveryStepChargesItsCost := by
  refine ⟨fun i s t h => ?instruction, fun s t v hb h => ?delivery, fun s t hb h => ?halted, fun s hs => ?host, rfl⟩
  case instruction =>
    rw [encode, taken_eq_takenForm, tableCost_eq_chargeOf]
    refine ⟨(controlAfter_of_exec h).cycles, ?_⟩
    rw [exec_eq_execForm] at h
    exact chargeOf_bounds (isUndefined_of_next h) s
  case delivery =>
    rw [eq_deliver_of_boundary hb h]
    rfl
  case halted =>
    rw [eq_haltedStep_of_boundary hb h]
    rfl
  case host => exact Nat.mod_eq_of_lt hs

/-- Settles O26: IME is read off the control state that a form and a delivery leave. -/
theorem onlyNamedInstructionsWriteIme : Obligations.OnlyNamedInstructionsWriteIme := by
  refine ⟨fun i s t h => (controlAfter_of_exec h).ime, fun s t h => ⟨fun v hb => ?delivery, fun hb => ?halted⟩⟩
  case delivery => rw [eq_deliver_of_boundary hb h, deliver]
  case halted => rw [eq_haltedStep_of_boundary hb h, haltedStep]

/-- Settles O27: so is `halted`. -/
theorem onlyHaltSetsHalted : Obligations.OnlyHaltSetsHalted := by
  refine ⟨fun i s t h => (controlAfter_of_exec h).halted, fun s t h => ⟨fun v hb => ?delivery, fun hb => ?halted⟩,
    fun s => rfl⟩
  case delivery => rw [eq_deliver_of_boundary hb h, deliver]
  case halted => exact eq_haltedStep_of_boundary hb h

end Sys2Proof.Claims
end

section
/-! PROOF. The accesses of an instruction and of a step (20_memory.md R55 to R58). Storage and what devices have seen
are changed by accesses alone, so a state is described by the accesses that led to it: each memory operation makes its
own, operations made in turn make theirs in turn, and every other update makes none. -/

namespace Sys2Proof.Claims

open Sys2Proof.Machine

/-- Storage after the core made `accesses` from `s`: the writes among them to RAM, made in order. -/
def replayed (s : State) (accesses : List Access) : Memory :=
  (accesses.filterMap (ramStore s)).foldl (fun m w => Memory.write m w.1.toNat w.2) s.mem

/-- From `s` the core came to `t` by making `accesses`, as far as the Memory Interface can tell. -/
structure Makes (s t : State) (accesses : List Access) : Prop where
  map : t.map = s.map
  mem : t.mem = replayed s accesses
  bus : t.bus = seenBy s accesses

/-- The byte writes of a list, as accesses. -/
def writeAccesses (writes : List (Word × Byte)) : List Access := writes.map fun w => .write w.1 w.2

section
variable {s t u : State} {xs ys : List Access}

theorem makes_of_eq (hmap : t.map = s.map := by simp) (hmem : t.mem = s.mem := by simp)
    (hbus : t.bus = s.bus := by simp) : Makes s t [] :=
  ⟨hmap, hmem, hbus⟩

/-- An update of other fields makes no access. -/
theorem Makes.update (h : Makes s u xs) (hmap : t.map = u.map := by simp) (hmem : t.mem = u.mem := by simp)
    (hbus : t.bus = u.bus := by simp) : Makes s t xs :=
  ⟨hmap.trans h.map, hmem.trans h.mem, hbus.trans h.bus⟩

/-- Accesses made in turn. -/
theorem Makes.append (h : Makes s t xs) (k : Makes t u ys) : Makes s u (xs ++ ys) where
  map := k.map.trans h.map
  mem := by
    rw [k.mem, replayed, ramStore_of_map h.map, h.mem, replayed, replayed, List.filterMap_append, List.foldl_append]
  bus := by
    rw [k.bus, seenBy_append]
    exact seenBy_of_eq (s := { s with bus := seenBy s xs }) h.map h.bus ys

end

section
variable (s : State)

theorem makes_afterRead (a : Word) : Makes s (s.afterRead a) [.read a] := ⟨rfl, rfl, (seenBy_read s a []).symm⟩

theorem makes_writeByte (a : Word) (v : Byte) : Makes s (s.writeByte a v) [.write a v] where
  map := rfl
  mem := by
    by_cases h : s.kind a = .ram <;> simp [replayed, ramStore, h]
  bus := (seenBy_write s a v []).symm

theorem makes_afterReadWord (a : Word) : Makes s (s.afterReadWord a) ((wordAddresses a).map .read) :=
  (makes_afterRead s a).append (makes_afterRead (s.afterRead a) (a + 1#16))

theorem makes_writeWord (a v : Word) : Makes s (s.writeWord a v) (writeAccesses (wordWrites a v)) :=
  (makes_writeByte s a (loByte v)).append (makes_writeByte (s.writeByte a (loByte v)) (a + 1#16) (hiByte v))

theorem makes_push (v : Word) : Makes s (s.push v) (writeAccesses (wordWrites (s.sp - 2#16) v)) :=
  (makes_of_eq (s := s) (t := { s with sp := s.sp - 2#16 })).append (makes_writeWord _ (s.sp - 2#16) v)

theorem makes_dropWord : Makes s s.dropWord ((wordAddresses s.sp).map .read) :=
  (makes_afterReadWord s s.sp).update

theorem makes_afterReadLoc (l : Loc) : Makes s (s.afterReadLoc l) ((locReads l s).map .read) := by
  cases l with
  | reg r => exact makes_of_eq rfl rfl rfl
  | atHL => exact makes_afterRead s s.hl

theorem makes_afterSource (src : Src) : Makes s (s.afterSource src) ((sourceReads src s).map .read) := by
  cases src with
  | loc l => exact makes_afterReadLoc s l
  | imm d8 => exact makes_of_eq rfl rfl rfl

theorem makes_writeLoc (l : Loc) (v : Byte) : Makes s (s.writeLoc l v) (writeAccesses (locWrites l v s)) := by
  cases l with
  | reg r => exact makes_of_eq (State.setReg_map s r v) (State.setReg_mem s r v) (State.setReg_bus s r v)
  | atHL => exact makes_writeByte s s.hl v

/-- A location read and written back (R55). -/
theorem makes_updateLoc (l : Loc) (v : Byte) :
    Makes s ((s.afterReadLoc l).writeLoc l v)
      ((locReads l s).map .read ++ writeAccesses (locWrites l v s)) := by
  have hwrites : locWrites l v (s.afterReadLoc l) = locWrites l v s := by cases l <;> rfl
  rw [← hwrites]
  exact (makes_afterReadLoc s l).append (makes_writeLoc (s.afterReadLoc l) l v)

end

/-- The bare 0xCB makes the accesses of its extended form. -/
theorem dataReads_prefixed (ext : Byte) (s : State) : dataReads s (.prefixed ext) = dataReads s (extendedForm ext) := by
  unfold extendedForm
  generalize (ext.extractLsb' 6 2).toNat = g
  match g with
  | 0 => rfl
  | 1 => rfl
  | 2 => rfl
  | _ + 3 => rfl

theorem dataWrites_prefixed (ext : Byte) (s : State) :
    dataWrites s (.prefixed ext) = dataWrites s (extendedForm ext) := by
  simp only [dataWrites, extendedWrites, extendedForm]
  generalize (ext.extractLsb' 6 2).toNat = g
  match g with
  | 0 => rfl
  | 1 => rfl
  | 2 => rfl
  | _ + 3 => rfl

theorem dataAccesses_prefixed (ext : Byte) (s : State) :
    dataAccesses (.prefixed ext) s = dataAccesses (extendedForm ext) s := by
  rw [dataAccesses, dataReads_prefixed, dataWrites_prefixed]
  rfl

/-- An instruction that is its own reading makes the accesses listed for its form (R55). -/
theorem makes_of_wellFormed {f : Form} {s t : State} (hf : f.wellFormed = true) (h : execForm f s = .next t) :
    Makes s t (dataAccesses f s) := by
  cases f with
  | prefixed ext => cases hf
  | undefinedByte opcode => cases h
  -- no data access
  | ldRegReg | ldRegImm | ldPairImm | ldSPHL | ldHLSPPlus | daa | cpl | scf | ccf | addHL | incPair | decPair | addSP
  | rlca | rrca | rla | rra | jp | jpHL | jr | nop | halt | stop | di | ei =>
    cases h
    exact makes_of_eq
  | jpIf | jrIf =>
    simp only [execForm, jumpIf, jumpRelativeIf] at h
    split at h <;> cases h <;> exact makes_of_eq
  -- one byte read
  | ldRegAtHL | ldAAtBC | ldAAtDE | ldAAtAbs | ldhAAt | ldAAtC | ldAAtHLInc | ldAAtHLDec =>
    cases h
    exact (makes_afterRead s _).update
  -- one byte written
  | ldAtHLReg | ldAtHLImm | ldAtBCA | ldAtDEA | ldAtAbsA | ldhAtA | ldAtCA | ldAtHLIncA | ldAtHLDecA =>
    cases h
    exact (makes_writeByte s _ _).update
  | ldAtAbsSP a16 =>
    cases h
    exact (makes_writeWord s a16 s.sp).update
  -- the stack
  | push | call | rst =>
    cases h
    exact (makes_push s _).update
  | pop | ret =>
    cases h
    exact (makes_dropWord s).update
  | reti =>
    cases h
    exact (makes_afterReadWord s s.sp).update rfl rfl rfl
  | callIf cc a16 =>
    simp only [execForm, callIf] at h
    split at h
    next taken =>
      cases h
      simp only [dataAccesses, dataReads, dataWrites, taken, if_true]
      exact (makes_push s _).update
    next notTaken =>
      cases h
      simp only [dataAccesses, dataReads, dataWrites, notTaken]
      exact makes_of_eq
  | retIf cc =>
    simp only [execForm, returnIf] at h
    split at h
    next taken =>
      cases h
      simp only [dataAccesses, dataReads, dataWrites, taken, if_true, List.append_nil, List.map_nil]
      exact (makes_dropWord s).update
    next notTaken =>
      cases h
      simp only [dataAccesses, dataReads, dataWrites, notTaken]
      exact makes_of_eq
  -- a location or a source
  | alu op src =>
    simp only [dataAccesses, dataReads, dataWrites, List.map_nil, List.append_nil]
    cases op <;> cases h <;> exact (makes_afterSource s src).update
  | bit n l =>
    cases h
    simp only [dataAccesses, dataReads, dataWrites, List.map_nil, List.append_nil]
    exact (makes_afterReadLoc s l).update
  | incLoc l | decLoc l | rot _ l | res _ l | set _ l =>
    cases h
    exact (makes_updateLoc s l _).update

/-- Every instruction makes the accesses listed for its form, once each and in order (R55, R56). -/
theorem makes_of_exec {i : Instr} {s t : State} (h : exec i s = .next t) : Makes s t (dataAccesses i.form s) := by
  rw [exec_eq_execForm] at h
  rcases prefixed_or_wellFormed i.form with ⟨ext, hi⟩ | hf
  · rw [hi, execForm, runExtended_eq_execForm] at h
    rw [hi, dataAccesses_prefixed]
    exact makes_of_wellFormed (extendedForm_wellFormed ext) h
  · exact makes_of_wellFormed hf h

/-- A fetch reads, and writes nothing. -/
theorem makes_fetched (s : State) : Makes s (fetched s) ((fetchAddresses s).map .read) := by
  have hnoWrite : ∀ x ∈ (fetchAddresses s).map Access.read, ramStore s x = none := by simp [ramStore]
  rw [fetched_eq_seenBy]
  refine ⟨rfl, ?_, rfl⟩
  rw [replayed, List.filterMap_eq_nil_iff.2 hnoWrite]
  rfl

theorem makes_deliver (v : Word) (s : State) :
    Makes s (deliver v s) (writeAccesses (wordWrites (s.sp - 2#16) s.pc)) :=
  (makes_push s s.pc).update rfl rfl rfl

/-- Every step makes the accesses of its list (R55, R56). -/
theorem makes_of_step {s t : State} (h : step s = .next t) : Makes s t (stepAccesses s) := by
  rw [step] at h
  rw [stepAccesses]
  cases hb : boundary s with
  | counterFull =>
    rw [hb] at h
    cases h
  | deliver v =>
    rw [hb] at h
    cases h
    exact makes_deliver v s
  | halted =>
    rw [hb] at h
    cases h
    exact makes_of_eq rfl rfl rfl
  | execute i =>
    rw [hb] at h
    exact (makes_fetched s).append (makes_of_exec h)

/-- What an access stores, it stores in RAM. -/
theorem kind_of_ramStore {s : State} {access : Access} {w : Word × Byte} (h : ramStore s access = some w) :
    s.kind w.1 = .ram := by
  cases access with
  | read a => cases h
  | write a v =>
    rw [ramStore] at h
    split at h
    next hram =>
      cases h
      exact hram
    next => cases h

/-- Replaying writes to RAM leaves every byte of storage that is not RAM. -/
theorem read_replayed_of_not_ram {s : State} {x : Word} (hx : s.kind x ≠ .ram) (accesses : List Access) :
    Memory.read (replayed s accesses) x.toNat = s.stored x := by
  have hother : ∀ w ∈ accesses.filterMap (ramStore s), x ≠ w.1 := by
    rintro w hw rfl
    obtain ⟨access, -, hstore⟩ := List.mem_filterMap.1 hw
    exact hx (kind_of_ramStore hstore)
  rw [replayed, State.stored]
  generalize accesses.filterMap (ramStore s) = writes at hother
  generalize s.mem = m
  induction writes generalizing m with
  | nil => rfl
  | cons w rest ih =>
    rw [List.foldl_cons, ih (fun w' hw' => hother w' (List.mem_cons_of_mem w hw')), Memory.read_write,
      if_neg fun h => hother w List.mem_cons_self (BitVec.eq_of_toNat_eq h)]

/-- Settles O29: an instruction and a step each make the accesses of their lists. -/
theorem memoryChangesAreTheListedWrites : Obligations.MemoryChangesAreTheListedWrites := by
  refine ⟨fun i s t h => ?instruction, fun s t h => ?step⟩
  case instruction =>
    obtain ⟨-, hmem, hbus⟩ := makes_of_exec h
    exact ⟨hmem, hbus⟩
  case step =>
    obtain ⟨hmap, hmem, hbus⟩ := makes_of_step h
    refine ⟨hmem, hbus, hmap, fun x hx => ?_⟩
    rw [State.stored, hmem]
    exact read_replayed_of_not_ram hx _

-- The invariant (10_state.md R27, 20_memory.md R55)

/-- The invariant as its three parts. -/
theorem inv_iff (s : State) :
    s.inv = true ↔
      s.f &&& 0x0F#8 = 0#8 ∧ Memory.wf s.mem = true ∧ ∀ x ∈ s.bus, s.kind x.address = .device := by
  simp [State.inv, State.flagsClean, State.busClean, and_assoc]

theorem wf_replayed {s : State} (h : Memory.wf s.mem = true) (accesses : List Access) :
    Memory.wf (replayed s accesses) = true := by
  rw [replayed]
  generalize accesses.filterMap (ramStore s) = writes
  generalize s.mem = m at h
  induction writes generalizing m with
  | nil => exact h
  | cons w rest ih => exact ih _ (Memory.wf_write h w.1.isLt w.2)

/-- What devices have seen after more accesses was made to device addresses. -/
theorem device_of_mem_seenBy {s : State} (h : ∀ x ∈ s.bus, s.kind x.address = .device) (accesses : List Access) :
    ∀ x ∈ seenBy s accesses, s.kind x.address = .device := by
  intro x hx
  rw [seenBy, List.mem_append, List.mem_reverse, List.mem_filter, decide_eq_true_iff] at hx
  exact hx.elim And.right (h x)

/-- Settles O19: at launch F is the reset value and devices have seen nothing. -/
theorem invariantHoldsAtReset : Obligations.InvariantHoldsAtReset := by
  refine ⟨rfl, fun m map hm => (inv_iff _).2 ⟨lowNibbleOfFStaysZero.1, hm, fun x hx => ?_⟩⟩
  exact absurd hx List.not_mem_nil

/-- Settles O20: a step keeps F or clears its hard-wired bits, and reaches storage and devices by its accesses alone. -/
theorem stepKeepsTheInvariant : Obligations.StepKeepsTheInvariant := by
  intro s t hs h
  obtain ⟨hf, hmem, hbus⟩ := (inv_iff s).1 hs
  obtain ⟨hmap', hmem', hbus'⟩ := makes_of_step h
  refine (inv_iff t).2 ⟨?flags, ?memory, ?devices⟩
  case flags => exact lowNibbleOfFStaysZero.2.1 s t hf h
  case memory =>
    rw [hmem']
    exact wf_replayed hmem _
  case devices =>
    have hkind : t.kind = s.kind := by
      unfold State.kind
      rw [hmap']
    rw [hbus', hkind]
    exact device_of_mem_seenBy hbus _

end Sys2Proof.Claims
end

section
/-! PROOF. What an instruction can depend on (10_state.md R36, 20_memory.md R55). Two states that differ in the control
state and in storage alone give an instruction the same registers, map and devices; where they also agree on the bytes
it reads, it answers two states that differ in the same way, after the same accesses. -/

namespace Sys2Proof.Machine

/-- The part of a state that no instruction's meaning names: the control state, and storage apart from what reads
answer. -/
structure Hidden where
  ime : Bool
  halted : Bool
  pending : Option Word
  cycles : Nat
  mem : Memory

/-- The state with another hidden part. -/
def State.withHidden (k : Hidden) (s : State) : State :=
  { s with ime := k.ime, halted := k.halted, pending := k.pending, cycles := k.cycles, mem := k.mem }

/-- The states are alike in all but the hidden part. -/
def Alike (s u : State) : Prop := ∃ k, u = s.withHidden k

section
variable {s u : State}

/-- Alike states are equal once the hidden part of one is put into the other. -/
theorem Alike.eq_of_hidden (h : Alike s u) :
    { u with ime := s.ime, halted := s.halted, pending := s.pending, cycles := s.cycles, mem := s.mem } = s := by
  obtain ⟨k, rfl⟩ := h
  rfl

theorem Alike.setReg (h : Alike s u) (r : Reg8) (v : Byte) : Alike (s.setReg r v) (u.setReg r v) := by
  obtain ⟨k, rfl⟩ := h
  exact ⟨k, by cases r <;> rfl⟩

theorem Alike.setHL (h : Alike s u) (v : Word) : Alike (s.setHL v) (u.setHL v) := by
  obtain ⟨k, rfl⟩ := h
  exact ⟨k, rfl⟩

theorem Alike.setPair (h : Alike s u) (p : Pair) (v : Word) : Alike (s.setPair p v) (u.setPair p v) := by
  obtain ⟨k, rfl⟩ := h
  exact ⟨k, by cases p <;> rfl⟩

theorem Alike.setStackPair (h : Alike s u) (q : StackPair) (v : Word) :
    Alike (s.setStackPair q v) (u.setStackPair q v) := by
  obtain ⟨k, rfl⟩ := h
  exact ⟨k, by cases q <;> rfl⟩

theorem Alike.setFlags (h : Alike s u) (w : FlagUpdate) : Alike (s.setFlags w) (u.setFlags w) := by
  obtain ⟨k, rfl⟩ := h
  exact ⟨k, rfl⟩

theorem Alike.afterRead (h : Alike s u) (a : Word) : Alike (s.afterRead a) (u.afterRead a) := by
  obtain ⟨k, rfl⟩ := h
  exact ⟨k, rfl⟩

theorem Alike.afterReadLoc (h : Alike s u) (l : Loc) : Alike (s.afterReadLoc l) (u.afterReadLoc l) := by
  cases l with
  | reg r => exact h
  | atHL =>
    obtain ⟨k, rfl⟩ := h
    exact (Alike.afterRead ⟨k, rfl⟩ s.hl)

theorem Alike.afterSource (h : Alike s u) (src : Src) : Alike (s.afterSource src) (u.afterSource src) := by
  cases src with
  | loc l => exact h.afterReadLoc l
  | imm d8 => exact h

theorem Alike.writeByte (h : Alike s u) (a : Word) (v : Byte) : Alike (s.writeByte a v) (u.writeByte a v) := by
  obtain ⟨k, rfl⟩ := h
  exact ⟨{ k with mem := ((s.withHidden k).writeByte a v).mem }, rfl⟩

theorem Alike.writeWord (h : Alike s u) (a v : Word) : Alike (s.writeWord a v) (u.writeWord a v) :=
  (h.writeByte a _).writeByte (a + 1#16) _

theorem Alike.writeLoc (h : Alike s u) (l : Loc) (v : Byte) : Alike (s.writeLoc l v) (u.writeLoc l v) := by
  cases l with
  | reg r => exact h.setReg r v
  | atHL =>
    obtain ⟨k, rfl⟩ := h
    exact Alike.writeByte ⟨k, rfl⟩ s.hl v

theorem Alike.setSP (h : Alike s u) (v : Word) : Alike { s with sp := v } { u with sp := v } := h.setPair .sp v

theorem Alike.push (h : Alike s u) (v : Word) : Alike (s.push v) (u.push v) := by
  obtain ⟨k, rfl⟩ := h
  exact (Alike.setSP ⟨k, rfl⟩ (s.sp - 2#16)).writeWord (s.sp - 2#16) v

theorem Alike.dropWord (h : Alike s u) : Alike s.dropWord u.dropWord := by
  obtain ⟨k, rfl⟩ := h
  exact (((Alike.afterRead ⟨k, rfl⟩ s.sp).afterRead (s.sp + 1#16)).setSP (s.sp + 2#16))

theorem Alike.advance (h : Alike s u) (len cost : Nat) : Alike (s.advance len cost) (u.advance len cost) := by
  obtain ⟨k, rfl⟩ := h
  exact ⟨{ k with cycles := k.cycles + cost }, rfl⟩

theorem Alike.jump (h : Alike s u) (target : Word) (cost : Nat) : Alike (s.jump target cost) (u.jump target cost) := by
  obtain ⟨k, rfl⟩ := h
  exact ⟨{ k with cycles := k.cycles + cost }, rfl⟩

theorem Alike.setIme (h : Alike s u) (on : Bool) : Alike { s with ime := on } { u with ime := on } := by
  obtain ⟨k, rfl⟩ := h
  exact ⟨{ k with ime := on }, rfl⟩

theorem Alike.setHalted (h : Alike s u) (on : Bool) : Alike { s with halted := on } { u with halted := on } := by
  obtain ⟨k, rfl⟩ := h
  exact ⟨{ k with halted := on }, rfl⟩

end

section
variable {s : State} {k : Hidden}

theorem State.withHidden_sp : (s.withHidden k).sp = s.sp := rfl

theorem State.withHidden_cond (cc : Cond) : (s.withHidden k).cond cc = s.cond cc := by
  cases cc <;> rfl

/-- A byte that reads alike still does once devices have seen a read. -/
theorem State.readByte_afterRead_withHidden {x : Word} (h : (s.withHidden k).readByte x = s.readByte x) (a : Word) :
    ((s.withHidden k).afterRead a).readByte x = (s.afterRead a).readByte x := by
  by_cases hx : s.kind x = .device
  · rw [State.readByte_of_device (s := (s.withHidden k).afterRead a) hx,
      State.readByte_of_device (s := s.afterRead a) hx]
    rfl
  · rw [State.readByte_of_not_device (s := s.withHidden k) hx, State.readByte_of_not_device hx] at h
    rw [State.readByte_of_not_device (s := (s.withHidden k).afterRead a) hx,
      State.readByte_of_not_device (s := s.afterRead a) hx]
    exact h

theorem State.readWord_withHidden {a : Word}
    (h : ∀ x ∈ wordAddresses a, (s.withHidden k).readByte x = s.readByte x) :
    (s.withHidden k).readWord a = s.readWord a := by
  have hlow := h a (by simp [wordAddresses])
  have hhigh := h (a + 1#16) (by simp [wordAddresses])
  rw [State.readWord, State.readWord, hlow, State.readByte_afterRead_withHidden hhigh]

theorem State.readLoc_withHidden {l : Loc} (h : ∀ x ∈ locReads l s, (s.withHidden k).readByte x = s.readByte x) :
    (s.withHidden k).readLoc l = s.readLoc l := by
  cases l with
  | reg r => rfl
  | atHL => exact h s.hl (by simp [locReads])

theorem State.source_withHidden {src : Src}
    (h : ∀ x ∈ sourceReads src s, (s.withHidden k).readByte x = s.readByte x) :
    (s.withHidden k).source src = s.source src := by
  cases src with
  | loc l => exact State.readLoc_withHidden h
  | imm d8 => rfl

/-- A byte that reads alike, loaded. -/
theorem Alike.loadByte {a : Word} (hs : Alike s (s.withHidden k)) (r : Reg8)
    (h : (s.withHidden k).readByte a = s.readByte a) :
    Alike ((s.afterRead a).setReg r (s.readByte a))
      (((s.withHidden k).afterRead a).setReg r ((s.withHidden k).readByte a)) := by
  rw [h]
  exact (hs.afterRead a).setReg r _

/-- A conditional transfer: the same condition decides, and each outcome is alike. -/
theorem exists_alike_of_ite {c c' : Bool} {r r' : Result} {t n n' : State} (hc : c' = c)
    (h : (if c then r else .next n) = .next t)
    (htaken : c = true → r = .next t → ∃ u, r' = .next u ∧ Alike t u) (hnotTaken : Alike n n') :
    ∃ u, (if c' then r' else .next n') = .next u ∧ Alike t u := by
  subst hc
  cases c' with
  | true => exact htaken rfl h
  | false =>
    cases h
    exact ⟨n', rfl, hnotTaken⟩

/-- An instruction that is its own reading answers alike from states that are alike and agree on the bytes it reads. -/
theorem alike_of_wellFormed {f : Form} {t : State} (hf : f.wellFormed = true)
    (hreads : ∀ x ∈ dataReads s f, (s.withHidden k).readByte x = s.readByte x) (h : execForm f s = .next t) :
    ∃ u, execForm f (s.withHidden k) = .next u ∧ Alike t u := by
  have hs : Alike s (s.withHidden k) := ⟨k, rfl⟩
  cases f with
  | prefixed ext => cases hf
  | undefinedByte opcode => cases h
  -- registers, from registers and the instruction
  | ldRegReg | ldRegImm =>
    cases h
    exact ⟨_, rfl, (hs.setReg _ _).advance _ _⟩
  | ldPairImm | incPair | decPair =>
    cases h
    exact ⟨_, rfl, (hs.setPair _ _).advance _ _⟩
  | ldSPHL =>
    cases h
    exact ⟨_, rfl, (hs.setPair .sp _).advance _ _⟩
  | daa | cpl | rlca | rrca | rla | rra =>
    cases h
    exact ⟨_, rfl, ((hs.setReg .a _).setFlags _).advance _ _⟩
  | scf | ccf =>
    cases h
    exact ⟨_, rfl, (hs.setFlags _).advance _ _⟩
  | ldHLSPPlus | addHL =>
    cases h
    exact ⟨_, rfl, ((hs.setHL _).setFlags _).advance _ _⟩
  | addSP =>
    cases h
    exact ⟨_, rfl, ((hs.setPair .sp _).setFlags _).advance _ _⟩
  -- a byte or a word written
  | ldAtHLReg | ldAtHLImm | ldAtBCA | ldAtDEA | ldAtAbsA | ldhAtA | ldAtCA =>
    cases h
    exact ⟨_, rfl, (hs.writeByte _ _).advance _ _⟩
  | ldAtHLIncA | ldAtHLDecA =>
    cases h
    exact ⟨_, rfl, ((hs.writeByte _ _).setHL _).advance _ _⟩
  | ldAtAbsSP =>
    cases h
    exact ⟨_, rfl, (hs.writeWord _ _).advance _ _⟩
  | push =>
    cases h
    exact ⟨_, rfl, (hs.push _).advance _ _⟩
  -- a byte or a word read
  | ldRegAtHL | ldAAtBC | ldAAtDE | ldAAtAbs | ldhAAt | ldAAtC =>
    cases h
    exact ⟨_, rfl, (hs.loadByte _ (hreads _ List.mem_cons_self)).advance _ _⟩
  | ldAAtHLInc | ldAAtHLDec =>
    cases h
    exact ⟨_, rfl, ((hs.loadByte .a (hreads _ List.mem_cons_self)).setHL _).advance _ _⟩
  | pop q =>
    cases h
    rw [execForm, popPair, State.withHidden_sp, State.readWord_withHidden hreads]
    exact ⟨_, rfl, (hs.dropWord.setStackPair q _).advance _ _⟩
  | alu op src =>
    have hsource := State.source_withHidden hreads
    cases op with
    | add | adc | sub | sbc | and | xor | or =>
      cases h
      simp only [execForm, accumulate, hsource]
      exact ⟨_, rfl, (((hs.afterSource src).setReg .a _).setFlags _).advance _ _⟩
    | cp =>
      cases h
      simp only [execForm, compareA, hsource]
      exact ⟨_, rfl, ((hs.afterSource src).setFlags _).advance _ _⟩
  | incLoc l | decLoc l =>
    cases h
    simp only [execForm, incrementAt, decrementAt, State.readLoc_withHidden hreads]
    exact ⟨_, rfl, (((hs.afterReadLoc l).writeLoc l _).setFlags _).advance _ _⟩
  | rot op l =>
    cases h
    simp only [execForm, rotateAt, State.readLoc_withHidden hreads]
    exact ⟨_, rfl, (((hs.afterReadLoc l).writeLoc l _).setFlags _).advance _ _⟩
  | bit n l =>
    cases h
    simp only [execForm, testBit, State.readLoc_withHidden hreads]
    exact ⟨_, rfl, ((hs.afterReadLoc l).setFlags _).advance _ _⟩
  | res n l | set n l =>
    cases h
    simp only [execForm, resetBit, setBit, State.readLoc_withHidden hreads]
    exact ⟨_, rfl, ((hs.afterReadLoc l).writeLoc l _).advance _ _⟩
  -- transfers
  | jp | jpHL | jr =>
    cases h
    exact ⟨_, rfl, hs.jump _ _⟩
  | call | rst =>
    cases h
    exact ⟨_, rfl, (hs.push _).jump _ _⟩
  | ret =>
    cases h
    rw [execForm, returnTo, State.withHidden_sp, State.readWord_withHidden hreads]
    exact ⟨_, rfl, hs.dropWord.jump _ _⟩
  | reti =>
    cases h
    rw [execForm, returnEnabling, returnFromInterrupt, State.withHidden_sp, State.readWord_withHidden hreads]
    exact ⟨_, rfl, (hs.dropWord.jump _ _).setIme true⟩
  | jpIf cc a16 =>
    refine exists_alike_of_ite (State.withHidden_cond cc) h (fun _ h => ?_) (hs.advance _ _)
    cases h
    exact ⟨_, rfl, hs.jump _ _⟩
  | jrIf cc e8 =>
    refine exists_alike_of_ite (State.withHidden_cond cc) h (fun _ h => ?_) (hs.advance _ _)
    cases h
    exact ⟨_, rfl, hs.jump _ _⟩
  | callIf cc a16 =>
    refine exists_alike_of_ite (State.withHidden_cond cc) h (fun _ h => ?_) (hs.advance _ _)
    cases h
    exact ⟨_, rfl, (hs.push _).jump _ _⟩
  | retIf cc =>
    refine exists_alike_of_ite (State.withHidden_cond cc) h (fun taken h => ?_) (hs.advance _ _)
    cases h
    simp only [dataReads, taken, if_true] at hreads
    rw [returnTo, State.withHidden_sp, State.readWord_withHidden hreads]
    exact ⟨_, rfl, hs.dropWord.jump _ _⟩
  -- control
  | nop | stop =>
    cases h
    exact ⟨_, rfl, hs.advance _ _⟩
  | halt =>
    cases h
    exact ⟨_, rfl, (hs.setHalted true).advance _ _⟩
  | di | ei =>
    cases h
    exact ⟨_, rfl, (hs.setIme _).advance _ _⟩

end

end Sys2Proof.Machine

namespace Sys2Proof.Claims

open Sys2Proof.Machine

/-- Every instruction answers alike from states that are alike and agree on the bytes it reads. -/
theorem exists_alike_of_exec {i : Instr} {s t : State} {k : Hidden}
    (hreads : ∀ x ∈ dataReads s i.form, (s.withHidden k).readByte x = s.readByte x) (h : exec i s = .next t) :
    ∃ u, exec i (s.withHidden k) = .next u ∧ Alike t u := by
  rw [exec_eq_execForm] at h ⊢
  rcases prefixed_or_wellFormed i.form with ⟨ext, hi⟩ | hf
  · rw [hi, dataReads_prefixed] at hreads
    rw [hi, execForm, runExtended_eq_execForm] at h ⊢
    exact alike_of_wellFormed (extendedForm_wellFormed ext) hreads h
  · exact alike_of_wellFormed hf hreads h

/-- The addresses an instruction reads are in registers and in the instruction. -/
theorem dataReads_withHidden (k : Hidden) (s : State) (f : Form) : dataReads (s.withHidden k) f = dataReads s f := by
  cases f <;> rfl

/-- What an instruction that is its own reading writes is from registers, from the instruction and from the byte it
reads. -/
theorem dataWrites_withHidden_of_wellFormed {f : Form} {s : State} {k : Hidden} (hf : f.wellFormed = true)
    (hreads : ∀ x ∈ dataReads s f, (s.withHidden k).readByte x = s.readByte x) :
    dataWrites (s.withHidden k) f = dataWrites s f := by
  cases f with
  | prefixed ext => cases hf
  | incLoc l | decLoc l | rot _ l | res _ l | set _ l =>
    rw [dataWrites, State.readLoc_withHidden hreads]
    rfl
  | _ => rfl

theorem dataAccesses_withHidden {f : Form} {s : State} {k : Hidden}
    (hreads : ∀ x ∈ dataReads s f, (s.withHidden k).readByte x = s.readByte x) :
    dataAccesses f (s.withHidden k) = dataAccesses f s := by
  rcases prefixed_or_wellFormed f with ⟨ext, rfl⟩ | hf
  · rw [dataReads_prefixed] at hreads
    rw [dataAccesses_prefixed, dataAccesses_prefixed, dataAccesses, dataReads_withHidden,
      dataWrites_withHidden_of_wellFormed (extendedForm_wellFormed ext) hreads]
    rfl
  · rw [dataAccesses, dataReads_withHidden, dataWrites_withHidden_of_wellFormed hf hreads]
    rfl

/-- The charge is by the form and the flags. -/
theorem chargeOf_withHidden (k : Hidden) (f : Form) (s : State) : chargeOf f (s.withHidden k) = chargeOf f s := by
  have htaken : takenForm f (s.withHidden k) = takenForm f s := by cases f <;> rfl
  rw [chargeOf, chargeOf, htaken]

/-- Settles O28: the two runs are alike and make the same accesses, and the four fields change by the form alone. -/
theorem noInstructionReadsControlState : Obligations.NoInstructionReadsControlState := by
  intro i s t ime halted pending cycles h
  let k : Hidden := ⟨ime, halted, pending, cycles, s.mem⟩
  have hreads : ∀ x ∈ dataReads s i.form, (s.withHidden k).readByte x = s.readByte x :=
    fun x _ => State.readByte_congr rfl rfl rfl x
  obtain ⟨u, hu, hlike⟩ := exists_alike_of_exec hreads h
  have hmem : u.mem = t.mem := by
    rw [(makes_of_exec hu).mem, (makes_of_exec h).mem, dataAccesses_withHidden hreads]
    rfl
  have hcycles := (controlAfter_of_exec h).cycles
  have hcycles' := (controlAfter_of_exec hu).cycles
  rw [chargeOf_withHidden] at hcycles'
  have hstart : (s.withHidden k).cycles = cycles := rfl
  refine ⟨u, hu, ?same, (controlAfter_of_exec h).pending, (controlAfter_of_exec hu).pending, by omega⟩
  case same =>
    have hsame := hlike.eq_of_hidden
    rwa [← hmem] at hsame

/-- Settles O30: with the same control state, being alike leaves storage as the one difference. -/
theorem resultsDependOnTheListedReadsOnly : Obligations.ResultsDependOnTheListedReadsOnly := by
  intro i s t m hreads h
  let k : Hidden := ⟨s.ime, s.halted, s.pending, s.cycles, m⟩
  obtain ⟨u, hu, hlike⟩ := exists_alike_of_exec (k := k) hreads h
  obtain ⟨hcycles, hime, hhalted, hpending, -⟩ := controlAfter_of_exec h
  obtain ⟨hcycles', hime', hhalted', hpending', -⟩ := controlAfter_of_exec hu
  rw [chargeOf_withHidden] at hcycles'
  have hsame := hlike.eq_of_hidden
  rw [← hime'.trans hime.symm, ← hhalted'.trans hhalted.symm, ← hpending'.trans hpending.symm,
    ← hcycles'.trans hcycles.symm] at hsame
  exact ⟨u, hu, hsame, dataAccesses_withHidden (k := k) hreads⟩

end Sys2Proof.Claims
end

section
/-! PROOF. Two instructions in a row (43_alu8.md R203, 95_test_vectors.md S2). `DAA` turns the sum of two packed-BCD
bytes into the packed-BCD sum, and a rotate is undone by its opposite. -/

namespace Sys2Proof.Machine

-- Decimal addition (R126, R203)

/-- The correction as a number: 6 for the low digit, 0x60 for the high one. -/
theorem toNat_daaCorrection (low high : Bool) :
    (daaCorrection low high).toNat = (if low then 6 else 0) + (if high then 96 else 0) := by
  cases low <;> cases high <;> rfl

/-- Of two decimal digits and a carry, the binary sum passes 15 or its low digit passes 9 when the sum is no digit. -/
theorem lowDigit_iff {units : Nat} (h : units ≤ 19) (tens : Nat) :
    15 < units ∨ 9 < (16 * tens + units) % 16 ↔ 10 ≤ units := by
  rw [Nat.mul_add_mod]
  omega

/-- With `tens` the sum of the tens and `units` that of the units and the carry, the binary sum passes 255 or its byte
passes 0x99 when the decimal sum is 100 or more. -/
theorem highDigit_iff {tens units : Nat} (htens : tens ≤ 18) (hunits : units ≤ 19) :
    255 < 16 * tens + units ∨ 0x99 < (16 * tens + units) % 256 ↔ 100 ≤ 10 * tens + units := by
  rcases lt_trichotomy tens 9 with h | rfl | h <;> omega

/-- The corrections carry the units into the tens and drop the hundreds. -/
theorem corrected_eq {tens units : Nat} (htens : tens ≤ 18) (hunits : units ≤ 19) :
    (16 * tens + units + ((if 10 ≤ units then 6 else 0) + (if 100 ≤ 10 * tens + units then 96 else 0))) % 256 =
      16 * ((10 * tens + units) / 10 % 10) + (10 * tens + units) % 10 := by
  split_ifs <;> interval_cases tens <;> omega

section
variable {a b : Byte} {cin : Bool} {tens units : Nat} (htens : tens ≤ 18) (hunits : units ≤ 19)
  (hlow : a.toNat % 16 + b.toNat % 16 + cin.toNat = units) (hsum : a.toNat + b.toNat + cin.toNat = 16 * tens + units)
include hunits hsum

section
include htens

/-- `DAA` after a packed-BCD addition corrects the high digit when the decimal sum is 100 or more. -/
theorem daaHigh_add8 :
    daaHigh (add8 a b cin).1 false (decide (a.toNat + b.toNat + cin.toNat > 0xFF)) =
      decide (100 ≤ 10 * tens + units) := by
  rw [Bool.eq_iff_iff, daaHigh_iff, add8, BitVec.toNat_ofNat, hsum, decide_eq_true_iff, decide_eq_true_iff,
    ← highDigit_iff htens hunits]
  simp

end

include hlow

/-- And the low digit when the units carry. -/
theorem daaLow_add8 :
    daaLow (add8 a b cin).1 false (decide (a.toNat % 16 + b.toNat % 16 + cin.toNat > 0x0F)) =
      decide (10 ≤ units) := by
  rw [Bool.eq_iff_iff, daaLow_iff, add8, BitVec.toNat_ofNat, hsum, hlow, Nat.mod_mod_of_dvd _ (by decide),
    decide_eq_true_iff, decide_eq_true_iff, ← lowDigit_iff hunits tens]
  simp

include htens

/-- So A is the packed-BCD sum modulo 100. -/
theorem toNat_daa8_add8 :
    (daa8 (add8 a b cin).1 false (decide (a.toNat % 16 + b.toNat % 16 + cin.toNat > 0x0F))
      (decide (a.toNat + b.toNat + cin.toNat > 0xFF))).1.toNat =
      16 * ((10 * tens + units) / 10 % 10) + (10 * tens + units) % 10 := by
  rw [daa8_result, if_neg Bool.false_ne_true, daaLow_add8 hunits hlow hsum, daaHigh_add8 htens hunits hsum,
    BitVec.toNat_add, toNat_daaCorrection, ← corrected_eq htens hunits, add8, BitVec.toNat_ofNat, hsum]
  simp

/-- `DAA` run in a state that the addition left. -/
theorem exec_daa_of_add8 {t : State} (ha : t.a = (add8 a b cin).1) (hn : t.fN = false)
    (hh : t.fH = decide (a.toNat % 16 + b.toNat % 16 + cin.toNat > 0x0F))
    (hc : t.fC = decide (a.toNat + b.toNat + cin.toNat > 0xFF)) :
    ∃ u, exec .daa t = .next u ∧ u.a.toNat = 16 * ((10 * tens + units) / 10 % 10) + (10 * tens + units) % 10 ∧
      (u.fC = true ↔ 100 ≤ 10 * tens + units) ∧ (u.fZ = true ↔ (10 * tens + units) % 100 = 0) := by
  have hresult := toNat_daa8_add8 htens hunits hlow hsum
  have hcarry := daaHigh_add8 htens hunits hsum
  rw [← hh, ← hc, ← ha, ← hn] at hresult
  rw [← hc, ← ha, ← hn] at hcarry
  refine ⟨_, exec_eq_execForm _ t, ?result, ?carry, ?zero⟩
  case result =>
    rw [← hresult]
    simp
  case carry => simp [daa8_flags, hcarry]
  case zero =>
    have hzero : isZero (daa8 t.a t.fN t.fH t.fC).1 = true ↔ (daa8 t.a t.fN t.fH t.fC).1.toNat = 0 := by
      rw [isZero_eq_decide_toNat, decide_eq_true_iff]
    rw [hresult] at hzero
    have : (10 * tens + units) % 100 = 0 ↔ 16 * ((10 * tens + units) / 10 % 10) + (10 * tens + units) % 10 = 0 := by
      omega
    rw [this, ← hzero]
    simp [daa8_flags]

end

-- Opposite rotates

theorem rl8_rr8 : ∀ (v : Byte) (cin : Bool), rl8 (rr8 v cin).1 (v.getLsbD 0) = (v, shiftFlags v cin) := by
  decide

theorem rrc8_rlc8 : ∀ v : Byte, rrc8 (rlc8 v).1 = (v, shiftFlags v (v.getLsbD 7)) := by
  decide

end Sys2Proof.Machine

namespace Sys2Proof.Claims

open Sys2Proof.Machine

theorem toNat_bcd (tens units : Fin 10) : (bcd tens units).toNat = 16 * tens.val + units.val := by
  rw [bcd, BitVec.toNat_ofNat]
  omega

/-- What `ADD A,B` and `ADC A,B` leave for `DAA`: the sum in A and the flags of `add8`. -/
theorem add8_of_exec_add {s t : State} {cin : Nat}
    (h : (exec .add_A_B s = .next t ∧ cin = 0) ∨ (exec .adc_A_B s = .next t ∧ cin = s.fC.toNat)) :
    ∃ c : Bool, c.toNat = cin ∧ t.a = (add8 s.a s.b c).1 ∧ t.fN = false ∧
      t.fH = decide (s.a.toNat % 16 + s.b.toNat % 16 + c.toNat > 0x0F) ∧
      t.fC = decide (s.a.toNat + s.b.toNat + c.toNat > 0xFF) := by
  rcases h with ⟨h, rfl⟩ | ⟨h, rfl⟩
  · rw [exec_eq_execForm] at h
    cases h
    refine ⟨false, rfl, ?_, ?_, ?_, ?_⟩ <;> simp <;> rfl
  · rw [exec_eq_execForm] at h
    cases h
    refine ⟨s.fC, rfl, ?_, ?_, ?_, ?_⟩ <;> simp <;> rfl

/-- Settles O45: by the sum of the tens, and that of the units with the carry. -/
theorem addThenDaaIsDecimalAddition : Obligations.AddThenDaaIsDecimalAddition := by
  intro s t tensA unitsA tensB unitsB ha hb cin h
  obtain ⟨c, rfl, hsum, hn, hh, hc⟩ := add8_of_exec_add h
  have hA : s.a.toNat = 16 * tensA.val + unitsA.val := by rw [ha, toNat_bcd]
  have hB : s.b.toNat = 16 * tensB.val + unitsB.val := by rw [hb, toNat_bcd]
  have hcin := c.toNat_le
  have hdecimal : 10 * tensA.val + unitsA.val + (10 * tensB.val + unitsB.val) + c.toNat =
      10 * (tensA.val + tensB.val) + (unitsA.val + unitsB.val + c.toNat) := by
    omega
  rw [hdecimal]
  refine exec_daa_of_add8 (by omega) (by omega) ?lowDigits ?total hsum hn hh hc
  case lowDigits =>
    rw [hA, hB, Nat.mul_add_mod, Nat.mul_add_mod, Nat.mod_eq_of_lt (by omega), Nat.mod_eq_of_lt (by omega)]
  case total => omega

/-- What an extended rotate or shift leaves at its location, a register or a byte of RAM, and in C; an `(HL)` location
stays in RAM. -/
theorem readLoc_of_exec_rot {i : Instr} {op : RotOp} {l : Loc} {s t : State} (hi : i.form = .rot op l)
    (h : exec i s = .next t) (hram : l = .atHL → s.kind s.hl = .ram) :
    t.readLoc l = (rotate8 op (s.readLoc l) s.fC).1 ∧ t.fC = (rotate8 op (s.readLoc l) s.fC).2.c.getD s.fC ∧
      (l = .atHL → t.kind t.hl = .ram) := by
  rw [exec_eq_execForm, hi] at h
  cases h
  cases l with
  | reg r =>
    refine ⟨?_, ?_, nofun⟩
    · simp [State.readLoc, State.writeLoc, State.afterReadLoc]
    · simp [State.writeLoc, State.afterReadLoc]
  | atHL =>
    have hkind : (s.afterRead s.hl).kind s.hl = .ram := hram rfl
    refine ⟨?_, ?_, fun _ => ?_⟩
    · simp only [State.readLoc, State.writeLoc, State.afterReadLoc, State.advance_hl, State.setFlags_hl,
        State.writeByte_hl, State.afterRead_hl, State.advance_readByte, State.setFlags_readByte,
        State.readByte_writeByte _ hkind, if_true]
    · simp [State.writeLoc, State.afterReadLoc]
    · exact hkind

/-- Settles O53: the second rotate reads the byte and the carry that the first one left. -/
theorem rotatesUndoEachOther : Obligations.RotatesUndoEachOther := by
  intro i j l s t u hfirst hsecond hram
  refine ⟨fun hi hj => ?rrThenRl, fun hi hj => ?rlcThenRrc⟩
  case rrThenRl =>
    obtain ⟨hbyte, hcarry, hram'⟩ := readLoc_of_exec_rot hi hfirst hram
    obtain ⟨hbyte', hcarry', -⟩ := readLoc_of_exec_rot hj hsecond hram'
    have hback := rl8_rr8 (s.readLoc l) s.fC
    have hout : t.fC = (s.readLoc l).getLsbD 0 := hcarry
    rw [hbyte, hout, rotate8, rotate8, hback] at hbyte' hcarry'
    exact ⟨hbyte', hcarry'⟩
  case rlcThenRrc =>
    obtain ⟨hbyte, -, hram'⟩ := readLoc_of_exec_rot hi hfirst hram
    obtain ⟨hbyte', hcarry', -⟩ := readLoc_of_exec_rot hj hsecond hram'
    rw [hbyte, rotate8, rotate8, rrc8_rlc8] at hbyte' hcarry'
    exact ⟨hbyte', hcarry'⟩

end Sys2Proof.Claims
end
